-- ==== Sys2Proof/Word.lean ====
section
/-! DEFINITION. The word types of PTCB and the colour triple. Nothing here computes anything. -/

namespace Sys2Proof

/-- A register, a command word or a pixel word: 32 bits (R9 `REG_W`, R21, R36). -/
abbrev Word := BitVec 32

/-- A byte of PB, or one 8-bit colour channel (R9, R35). -/
abbrev Byte := BitVec 8

/-- A Color565 word: 16 bits (R9, R100). -/
abbrev Half := BitVec 16

/-- A colour as the Channel Codec handles it: three unsigned 8-bit channels (R100, R109). -/
structure Rgb where
  r : Byte
  g : Byte
  b : Byte
deriving DecidableEq, Repr

end Sys2Proof
end

