-- ==== Sys2Proof/Config.lean ====
section
/-! DEFINITION. What an instance of PTCB fixes (R9's OPEN parameters) and the values the spec leaves
unspecified. Every constant here is opaque: it has no body, so no proof can learn its value, and a claim that
mentions one holds whatever it is. -/

namespace Sys2Proof

/-- The two OPEN parameters of R9: `PB_CAP` in bytes and `PX_CAP` in pixels, "any natural, at most 2^32 − 1"
(decision D12, U16). -/
structure Capacities where
  pb : Fin (2 ^ 32)
  px : Fin (2 ^ 32)
deriving DecidableEq, Repr, Inhabited

/-- The capacities of this instance (U16: parameter). DESIGN CHOICE, log entry 2. -/
opaque Config.capacities : Capacities

/-- The byte a never-written PB index holds (R40, R232, U10: any value). A free value, log entry 3. -/
opaque Config.pbPowerOn : Nat → Byte

/-- The word a never-written PX index holds (R40, R232, U10: any value). A free value, log entry 3. -/
opaque Config.pxPowerOn : Nat → Word

/-- The byte left at a PB index in the output range of the `n`-th command a reset has abandoned
(R230, U10: any value). A free value, log entry 4. -/
opaque Config.pbAbandoned : (n : Nat) → (index : Nat) → Byte

/-- The word left at a PX index in the output range of the `n`-th command a reset has abandoned
(R230, U10: any value). A free value, log entry 4. -/
opaque Config.pxAbandoned : (n : Nat) → (index : Nat) → Word

end Sys2Proof
end

