-- ==== Sys2Proof/Machine/State.lean ====
section
/-! DEFINITION. The state of one PTCB (R20) with the host at its ports (R236), and the reasons a step can stop. -/

namespace Sys2Proof.Machine

/-- The sequencer's phase (R32). -/
inductive Phase where
  | rest
  | check
  | fill
  | run
deriving DecidableEq, Repr

/-- The four error classes (R200, R204). -/
inductive ErrorClass where
  | layout
  | configuration
  | size
  | param
deriving DecidableEq, Repr

/-- The values of `STATUS.STATE` (R23). -/
inductive RunState where
  | idle
  | busy
  | done
  | error
deriving DecidableEq, Repr

/-- The latch `lat` (R33): the ten registers copied at a command start. -/
structure Latch where
  cmd     : Word
  width   : Word
  height  : Word
  bufLen  : Word
  imgW    : Word
  imgH    : Word
  destLen : Word
  opa     : Word
  xOut    : Word
  yOut    : Word
deriving DecidableEq, Repr

/-- What the host does in one step (R92, R197). `readReg` and `writeReg` carry the width of the access in bytes, so
that the accesses R60 gives no meaning can be told from the others. A `writeReg` at offset 0 is the micro-step START
(R240) and the block then goes on by micro-steps; `command w` is the same `CMD` write with the whole command taken as
one step (R65, R244). `quiet` is a step in which the host does nothing and the block moves. -/
inductive HostAction where
  | readReg (offset bytes : Nat)
  | writeReg (offset bytes : Nat) (v : Word)
  | readPB (a : Nat)
  | writePB (a : Nat) (v : Byte)
  | readPX (i : Nat)
  | writePX (i : Nat) (v : Word)
  | command (w : Word)
  | wait
  | quiet
  | reset
deriving DecidableEq, Repr

/-- The whole state. The sixteen registers of R21 come first, then the sequencer and the latch (R32, R33), then the
two memories (R35, R36) as rising lists of the cells that have been written, then the instance's capacities (R9).
The last three fields are the MODEL's own: the host actions still to come, what the host's last read returned, and
how many commands a reset has abandoned (log entries 1, 4, 5). -/
structure State where
  cmd       : Word
  status    : Word
  width     : Word
  height    : Word
  bufLen    : Word
  imgW      : Word
  imgH      : Word
  destLen   : Word
  opa       : Word
  xOut      : Word
  yOut      : Word
  res0      : Word
  res1      : Word
  outW      : Word
  outH      : Word
  gidx      : Word
  phase     : Phase
  lat       : Latch
  pb        : List Host.Cell
  px        : List (Nat × Word)
  caps      : Capacities
  host      : List HostAction
  reply     : Option Word
  abandoned : Nat
deriving DecidableEq, Repr

/-- Where the machine stops because an address does not exist. -/
inductive Fault where
  /-- The host's PB port, index at or above `PB_CAP` (R58, U12: no meaning). Safe: the model stops. -/
  | pbIndexBeyondCapacity (a : Nat)
  /-- The host's PX port, index at or above `PX_CAP` (R59, U12: no meaning). Safe: the model stops. -/
  | pxIndexBeyondCapacity (i : Nat)
deriving DecidableEq, Repr

/-- Host actions the spec tells a model to refuse. -/
inductive Refusal where
  /-- An operation with no meaning in the model. No operation is refused so: raised by nothing. Safe. -/
  | notModelled (mnemonic : String)
  /-- A register access that is not 32 bits wide at a multiple of 4 (R60, U12). Safe: the model stops. -/
  | registerAccessShape (offset bytes : Nat)
  /-- A host access to PB or PX while a command runs (R245, U9). Safe: the model stops. -/
  | memoryPortWhileBusy
deriving DecidableEq, Repr

/-- The cleared latch (R40, R230). -/
def Latch.zero : Latch where
  cmd := 0
  width := 0
  height := 0
  bufLen := 0
  imgW := 0
  imgH := 0
  destLen := 0
  opa := 0
  xOut := 0
  yOut := 0

/-- The machine right after reset (R40): every register 0, `PHASE` REST, the latch zero, both memories with nothing
written. The capacities are the instance's, and no host action is waiting. -/
def State.reset : State where
  cmd := 0
  status := 0
  width := 0
  height := 0
  bufLen := 0
  imgW := 0
  imgH := 0
  destLen := 0
  opa := 0
  xOut := 0
  yOut := 0
  res0 := 0
  res1 := 0
  outW := 0
  outH := 0
  gidx := 0
  phase := .rest
  lat := Latch.zero
  pb := []
  px := []
  caps := Config.capacities
  host := []
  reply := none
  abandoned := 0

end Sys2Proof.Machine
end

