-- ==== Sys2Proof/Machine/Flags.lean ====
section
/-! DEFINITION. PTCB has no flags (R34): the only status is the register `STATUS`. This file gives its fields (R23)
and the values the block writes into it (R201 to R204). -/

namespace Sys2Proof.Machine

/-- `STATUS.STATE`, bits 1:0 (R23). -/
def runStateCode : RunState → BitVec 2
  | .idle => 0
  | .busy => 1
  | .done => 2
  | .error => 3

/-- `STATUS.ERR`, bits 6:4 (R23, R201 to R204). -/
def errorCode : ErrorClass → BitVec 3
  | .layout => 1
  | .configuration => 2
  | .size => 3
  | .param => 4

/-- A `STATUS` word: bits 31:7 and 3:2 read as 0 (R23). -/
def statusWord (st : BitVec 2) (err : BitVec 3) : Word := 0#25 ++ err ++ 0#2 ++ st

/-- `STATUS` while a command runs (R240). -/
def statusBusy : Word := statusWord (runStateCode .busy) 0

/-- `STATUS` after a command that succeeded (R23). -/
def statusDone : Word := statusWord (runStateCode .done) 0

/-- `STATUS` after a command that failed (R206). -/
def statusError (e : ErrorClass) : Word := statusWord (runStateCode .error) (errorCode e)

/-- The `STATE` field of a `STATUS` word (R23). -/
def statusState (w : Word) : RunState :=
  match (w.extractLsb' 0 2).toNat with
  | 0 => .idle
  | 1 => .busy
  | 2 => .done
  | _ => .error

/-- The `ERR` field of a `STATUS` word (R23). -/
def statusErr (w : Word) : BitVec 3 := w.extractLsb' 4 3

/-- The `STATUS` words the block can hold (R23, R201 to R204): IDLE, BUSY, DONE and the four errors. -/
def statusLegal (w : Word) : Bool :=
  [0x00#32, 0x01#32, 0x02#32, 0x13#32, 0x23#32, 0x33#32, 0x43#32].contains w

/-- A command is running: `STATUS.STATE = BUSY` (R23, R42). -/
def State.busy (s : State) : Bool := statusState s.status == .busy

end Sys2Proof.Machine
end

