-- ==== Sys2Proof/Machine/Ops.lean ====
section
/-! DEFINITION. The named operations: the cells of PB and PX, the access primitives of R53 and R54, command start
(R240), error entry (R206) and successful completion (R241, R244). -/

namespace Sys2Proof.Machine

/-! ## Cells: a memory is a list of (index, value), indices strictly rising, one entry per written index -/

/-- The value written at an index; none if nothing has been written there. -/
def Memory.lookup {β : Type} : List (Nat × β) → Nat → Option β
  | [], _ => none
  | (a, v) :: m, k => if k = a then some v else Memory.lookup m k

/-- Write one cell, in its place in the rising order. -/
def Memory.store {β : Type} : List (Nat × β) → Nat → β → List (Nat × β)
  | [], k, v => [(k, v)]
  | (a, x) :: m, k, v =>
    if k < a then (k, v) :: (a, x) :: m
    else if k = a then (k, v) :: m
    else (a, x) :: Memory.store m k v

/-- Write cells `0` to `n − 1` in increasing order, cell `j` with `f j`. -/
def Memory.storeRange {β : Type} (f : Nat → β) : Nat → List (Nat × β) → List (Nat × β)
  | 0, m => m
  | n + 1, m => Memory.store (Memory.storeRange f n m) n (f n)

/-- The canonical form: indices strictly rising and below the capacity (R35, R36). -/
abbrev Memory.wf {β : Type} (cap : Nat) (m : List (Nat × β)) : Prop :=
  m.Pairwise (fun p q => p.1 < q.1) ∧ ∀ p ∈ m, p.1 < cap

/-! ## PB and PX -/

/-- `PB[a]` (R35, R58). A byte nothing has written reads as a free value (U10, log entry 3). -/
def pbByte (pb : List Host.Cell) (a : Nat) : Byte := (Memory.lookup pb a).getD (Config.pbPowerOn a)

/-- `PX[i]` (R36, R59). A word nothing has written reads as a free value (U10, log entry 3). -/
def pxWord (px : List (Nat × Word)) (i : Nat) : Word := (Memory.lookup px i).getD (Config.pxPowerOn i)

/-- `MemRead(PB, a, 2)`: the little-endian 16-bit read (R52, R53). -/
def memRead16 (pb : List Host.Cell) (a : Nat) : Half := pbByte pb (a + 1) ++ pbByte pb a

/-- `MemWrite(PB, a, 2, w)`: the little-endian 16-bit write (R52, R54). -/
def memWrite16 (pb : List Host.Cell) (a : Nat) (w : Half) : List Host.Cell :=
  Memory.store (Memory.store pb a (w.extractLsb' 0 8)) (a + 1) (w.extractLsb' 8 8)

/-! ## Pixel words -/

/-- The pixel word `{a, r, g, b}` (R36). -/
def packPixel (a : Byte) (c : Rgb) : Word := a ++ c.r ++ c.g ++ c.b

/-- The colour of a pixel word or of an operand triple: r in bits 23:16, g in 15:8, b in 7:0 (R28, R36). -/
def wordRgb (w : Word) : Rgb := ⟨w.extractLsb' 16 8, w.extractLsb' 8 8, w.extractLsb' 0 8⟩

/-! ## Command start and end -/

/-- The copies START takes of the registers (R33). -/
def State.latchNow (s : State) : Latch where
  cmd := s.cmd
  width := s.width
  height := s.height
  bufLen := s.bufLen
  imgW := s.imgW
  imgH := s.imgH
  destLen := s.destLen
  opa := s.opa
  xOut := s.xOut
  yOut := s.yOut

/-- Micro-step START for the command word `w` (R22, R240). -/
def startCommand (w : Word) (s : State) : State :=
  { s with
    cmd := w
    lat := { s.latchNow with cmd := w }
    status := statusBusy
    gidx := 0
    phase := .check }

/-- Error entry, `raise e` (R206): `STATUS` takes the error, `GIDX` is 0, the block rests, and nothing else changes.
There is no return from it: the next command's start overwrites `STATUS` (R208). -/
def raiseError (e : ErrorClass) (s : State) : State :=
  { s with status := statusError e, gidx := 0, phase := .rest }

/-- Successful end of a command whose count of groups is `n` (R32, R244): `STATUS` is DONE, `GIDX` is `n`. -/
def finishDone (n : Nat) (s : State) : State :=
  { s with status := statusDone, gidx := BitVec.ofNat 32 n, phase := .rest }

/-- A command as an atomic step (R8, R211): all its checks come first; if one fails the error is entered, else the
effect is made whole. -/
def conclude (failed : Option ErrorClass) (effect : State → State) (s : State) : State :=
  match failed with
  | some e => raiseError e s
  | none => effect s

/-- The end of a scalar operation (R105 to R108): `RES0` is written and `GIDX` stays 0. -/
def scalarDone (v : Word) (s : State) : State := finishDone 0 { s with res0 := v }

end Sys2Proof.Machine
end

