-- ==== Sys2Proof/Machine/Operands.lean ====
section
/-! DEFINITION. The operands of a command, all read from the latch (R33, R88), and the sizes computed from them
(R120, R180). Lengths and counts are exact naturals (R109). -/

namespace Sys2Proof.Machine

/-- The Color565 operand of `DEC565`: `OPA[15:0]` (R28, R88). -/
def opaColour (l : Latch) : Half := l.opa.extractLsb' 0 16

/-- The colour operand of `ENC565`, `GREYAVG` and `GREYLUM` (R28, R88). -/
def opaRgb (l : Latch) : Rgb := wordRgb l.opa

/-- `outW` (R120). -/
def Latch.outWidth (l : Latch) : Nat := l.width.toNat / 4

/-- `outH` (R120). -/
def Latch.outHeight (l : Latch) : Nat := l.height.toNat / 4

/-- `N`, the number of groups and of output pixels (R120). -/
def Latch.groups (l : Latch) : Nat := l.outWidth * l.outHeight

/-- `P`, the number of pixels of the encoder's image (R180). -/
def Latch.pixels (l : Latch) : Nat := l.imgW.toNat * l.imgH.toNat

/-- ParamError cause (b): a source dimension that is not a multiple of 4 (R120, R204). -/
abbrev Latch.badDimensions (l : Latch) : Prop := l.width.toNat % 4 ≠ 0 ∨ l.height.toNat % 4 ≠ 0

end Sys2Proof.Machine
end

