-- ==== Sys2Proof/Machine/ChannelCodec.lean ====
section
/-! DEFINITION. The Channel Codec: Color565 packing and unpacking, the two greyscale reductions, and the four scalar
operations (spec/40_channel_codec.md). -/

namespace Sys2Proof.Machine

/-- `decode565` (R100): the fields shifted left, the low bits left 0. -/
def decode565 (w : Half) : Rgb where
  r := (w.extractLsb' 11 5).setWidth 8 <<< 3
  g := (w.extractLsb' 5 6).setWidth 8 <<< 2
  b := (w.extractLsb' 0 5).setWidth 8 <<< 3

/-- `encode565` (R101): the low bits dropped, without rounding. -/
def encode565 (c : Rgb) : Half :=
  ((c.r.setWidth 16 >>> 3) <<< 11) ||| ((c.g.setWidth 16 >>> 2) <<< 5) ||| (c.b.setWidth 16 >>> 3)

/-- `avgGrey` (R102): the mean, truncated. -/
def avgGrey (c : Rgb) : Byte := BitVec.ofNat 8 ((c.r.toNat + c.g.toNat + c.b.toNat) / 3)

/-- `lumGrey` (R103, decision D14): the weighted mean rounded to nearest, ties up. -/
def lumGrey (c : Rgb) : Byte :=
  BitVec.ofNat 8 ((2126 * c.r.toNat + 7152 * c.g.toNat + 722 * c.b.toNat + 5000) / 10000)

/-- The `RES0` of `DEC565`: `{0x00, r, g, b}` (R30, R105). -/
def dec565Result (l : Latch) : Word := packPixel 0 (decode565 (opaColour l))

/-- The `RES0` of `ENC565` (R30, R106). -/
def enc565Result (l : Latch) : Word := (encode565 (opaRgb l)).setWidth 32

/-- The `RES0` of `GREYAVG` (R30, R107). -/
def greyAvgResult (l : Latch) : Word := (avgGrey (opaRgb l)).setWidth 32

/-- The `RES0` of `GREYLUM` (R30, R108). -/
def greyLumResult (l : Latch) : Word := (lumGrey (opaRgb l)).setWidth 32

/-- `DEC565` (R105). -/
def execDec565 (s : State) : Host.Outcome State Fault Refusal := .next (scalarDone (dec565Result s.lat) s)

/-- `ENC565` (R106). -/
def execEnc565 (s : State) : Host.Outcome State Fault Refusal := .next (scalarDone (enc565Result s.lat) s)

/-- `GREYAVG` (R107). -/
def execGreyAvg (s : State) : Host.Outcome State Fault Refusal := .next (scalarDone (greyAvgResult s.lat) s)

/-- `GREYLUM` (R108). -/
def execGreyLum (s : State) : Host.Outcome State Fault Refusal := .next (scalarDone (greyLumResult s.lat) s)

end Sys2Proof.Machine
end

