-- ==== Sys2Proof/Syntax.lean ====
section
/-! DEFINITION. The fifteen operations of spec/opcode_table.json, one constructor each, with the enumerations
their fields range over. A reserved field value has no constructor, so every term is a legal operation. -/

namespace Sys2Proof

/-- LogicalChannel (R83): the four slots of a group, in the source's order. -/
inductive Channel where
  | light
  | dark
  | lightMask
  | darkMask
deriving DecidableEq, Repr

/-- MaskKind (R84). -/
inductive MaskKind where
  | none
  | alpha
  | inverseAlpha
deriving DecidableEq, Repr

/-- The mask-channel request of `EXTRACT` (R85); `unspecified` is the spec's Default. -/
inductive MaskReq where
  | unspecified
  | light
  | dark
deriving DecidableEq, Repr

/-- The greyscale reduction `EXTRACT` applies to a mask colour (R86, R133). -/
inductive GreySel where
  | averaged
  | luminosity
deriving DecidableEq, Repr

/-- The encoder's background mode (R87, R183). -/
inductive FillMode where
  | zeroFill
  | patch
deriving DecidableEq, Repr

/-- The operations of R81 and R82, in the order of the opcode table. -/
inductive Instr where
  | nop
  | dec565
  | enc565
  | greyAvg
  | greyLum
  | boff (c : Channel)
  | extract (c : Channel) (k : MaskKind) (q : MaskReq) (g : GreySel)
  | blendLight
  | blendLMask
  | blendDark
  | blendDMask
  | blendMComp
  | blendCAvg
  | blendDmab
  | encode (f : FillMode)
deriving DecidableEq, Repr

end Sys2Proof
end

