-- ==== Sys2Proof/Machine/LayoutMapper.lean ====
section
/-! DEFINITION. The Layout Mapper: offsets in the packed buffer, the bound checks, and the operation `BOFF`
(spec/41_layout_mapper.md). -/

namespace Sys2Proof.Machine

/-- `chanOffset` (R122): the byte offset of a slot in its group. -/
def chanOffset : Channel → Nat
  | .light => 0
  | .dark => 2
  | .lightMask => 4
  | .darkMask => 6

/-- `byteOffset(g, c)` (R123). -/
def byteOffset (g : Nat) (c : Channel) : Nat := 8 * g + chanOffset c

/-- `groupIndex(x_out, y_out)` (R121). -/
def groupIndex (outW x y : Nat) : Nat := y * outW + x

/-- The inverse mapping of R127: the group an offset lies in. No operation uses it. -/
def offsetGroup (a : Nat) : Nat := a / 8

/-- The inverse mapping of R127: the channel whose slot an even offset starts. No operation uses it. -/
def offsetChannel (a : Nat) : Channel :=
  match a % 8 / 2 with
  | 0 => .light
  | 1 => .dark
  | 2 => .lightMask
  | _ => .darkMask

/-- The checks `EXTRACT` and every `BLEND.*` share, in the order of R150 (R125, R204 (b), (c), (d)). -/
def rasterCheck (s : State) : Option ErrorClass :=
  if s.lat.badDimensions then some .param
  else if s.lat.bufLen.toNat > s.caps.pb.val ∨ s.lat.groups > s.caps.px.val then some .param
  else if s.lat.bufLen.toNat < 8 * s.lat.groups then some .layout
  else none

/-- The success of a raster operation (R135, R150): pixel `gi` goes to `PX[gi]` for every group in increasing order,
then the size is reported. -/
def rasterDone (pixel : List Host.Cell → Nat → Word) (s : State) : State :=
  finishDone s.lat.groups
    { s with
      px := Memory.storeRange (pixel s.pb) s.lat.groups s.px
      outW := BitVec.ofNat 32 s.lat.outWidth
      outH := BitVec.ofNat 32 s.lat.outHeight }

/-- The group `BOFF` asks about (R126). -/
def boffGroup (l : Latch) : Nat := groupIndex l.outWidth l.xOut.toNat l.yOut.toNat

/-- The offset `BOFF` computes (R126). -/
def boffOffset (c : Channel) (l : Latch) : Nat := byteOffset (boffGroup l) c

/-- The checks of `BOFF` in their order (R126): the bound is the per-access one (R124). -/
def boffCheck (c : Channel) (s : State) : Option ErrorClass :=
  if s.lat.badDimensions then some .param
  else if s.lat.bufLen.toNat > s.caps.pb.val then some .param
  else if s.lat.xOut.toNat ≥ s.lat.outWidth ∨ s.lat.yOut.toNat ≥ s.lat.outHeight then some .param
  else if boffOffset c s.lat + 2 > s.lat.bufLen.toNat then some .layout
  else none

/-- The success of `BOFF` (R126). -/
def boffDone (c : Channel) (s : State) : State :=
  finishDone 0
    { s with
      res0 := BitVec.ofNat 32 (boffOffset c s.lat)
      res1 := BitVec.ofNat 32 (boffGroup s.lat) }

/-- `BOFF` (R126). It reads no byte of PB. -/
def execBoff (c : Channel) (s : State) : Host.Outcome State Fault Refusal :=
  .next (conclude (boffCheck c s) (boffDone c) s)

end Sys2Proof.Machine
end

