-- ==== Sys2Proof/Machine/Extractor.lean ====
section
/-! DEFINITION. The Component Extractor and the operation `EXTRACT` (spec/42_component_extractor.md). -/

namespace Sys2Proof.Machine

/-- `maskOffset(primary, req)` (R130), the table as the spec transcribes it, the Dark rows unrepaired (C5, U14).
A mask channel has no row: `EXTRACT` has failed with ConfigurationError before any lookup (R131). -/
def maskOffset : Channel → MaskReq → Option Nat
  | .light, .unspecified => some 4
  | .light, .light => some 4
  | .light, .dark => some 6
  | .dark, .unspecified => some 4
  | .dark, .light => some 2
  | .dark, .dark => some 4
  | .lightMask, _ => none
  | .darkMask, _ => none

/-- `alphaOf` (R132). -/
def alphaOf : MaskKind → Byte → Byte
  | .none, _ => 255
  | .alpha, v => v
  | .inverseAlpha, v => 255 - v

/-- The greyscale reduction `GREYSEL` selects (R86, R133). -/
def greyOf : GreySel → Rgb → Byte
  | .averaged, c => avgGrey c
  | .luminosity, c => lumGrey c

/-- The decoded colour of the slot at `off` in group `g` (R134, R150). -/
def slotRgb (pb : List Host.Cell) (g off : Nat) : Rgb := decode565 (memRead16 pb (8 * g + off))

/-- The alpha byte of `extractPixel` (R132, R134). A mask primary has no mask offset: with MaskKind None its alpha is
255, and with another kind `EXTRACT` fails before any pixel (R131), so that byte is never produced. -/
def extractAlpha (c : Channel) (k : MaskKind) (q : MaskReq) (sel : GreySel) (pb : List Host.Cell) (g : Nat) : Byte :=
  match maskOffset c q with
  | some off => alphaOf k (greyOf sel (slotRgb pb g off))
  | none => 255

/-- `extractPixel(g, c, k, q, s)` (R134) as a pixel word. The colour is not multiplied by the alpha. -/
def extractPixel (c : Channel) (k : MaskKind) (q : MaskReq) (sel : GreySel) (pb : List Host.Cell) (g : Nat) : Word :=
  packPixel (extractAlpha c k q sel pb g) (slotRgb pb g (chanOffset c))

/-- A mask kind asked of a mask channel (R131). -/
def maskOfMask : Channel → MaskKind → Bool
  | _, .none => false
  | .light, _ => false
  | .dark, _ => false
  | .lightMask, _ => true
  | .darkMask, _ => true

/-- The checks of `EXTRACT` in their order (R135, R207): ConfigurationError first. -/
def extractCheck (c : Channel) (k : MaskKind) (s : State) : Option ErrorClass :=
  if maskOfMask c k then some .configuration else rasterCheck s

/-- `EXTRACT` (R135). -/
def execExtract (c : Channel) (k : MaskKind) (q : MaskReq) (g : GreySel) (s : State) :
    Host.Outcome State Fault Refusal :=
  .next (conclude (extractCheck c k s) (rasterDone (extractPixel c k q g)) s)

end Sys2Proof.Machine
end

