-- ==== Sys2Proof/Machine/Blend.lean ====
section
/-! DEFINITION. The Blend Engine: the weighted sum, the seven strategies pixel by pixel, and the seven `BLEND.*`
operations (spec/43_blend_engine.md). -/

namespace Sys2Proof.Machine

/-- `MIX(x, y, m)` (R151, decision D15): exact, one truncating division. -/
def mix (x y m : Byte) : Byte := BitVec.ofNat 8 ((x.toNat * (255 - m.toNat) + y.toNat * m.toNat) / 255)

/-- `MIX` on each channel of two colours. -/
def mixRgb (x y : Rgb) (m : Byte) : Rgb := ⟨mix x.r y.r m, mix x.g y.g m, mix x.b y.b m⟩

/-- The truncated channel average of `BLEND.CAVG` (R157). -/
def halfSum (x y : Byte) : Byte := BitVec.ofNat 8 ((x.toNat + y.toNat) / 2)

/-- `blendPixel` of LightOnly (R152). -/
def lightPixel (pb : List Host.Cell) (g : Nat) : Word := packPixel 255 (slotRgb pb g 0)

/-- `blendPixel` of LightMaskOnly (R153): the mask channel's own colours, no greyscale. -/
def lightMaskPixel (pb : List Host.Cell) (g : Nat) : Word := packPixel 255 (slotRgb pb g 4)

/-- `blendPixel` of DarkOnly (R154). -/
def darkPixel (pb : List Host.Cell) (g : Nat) : Word := packPixel 255 (slotRgb pb g 2)

/-- `blendPixel` of DarkMaskOnly (R155). -/
def darkMaskPixel (pb : List Host.Cell) (g : Nat) : Word := packPixel 255 (slotRgb pb g 6)

/-- `blendPixel` of MaskedComposite (R156): Dark over Light, weight the averaged greyscale of the DarkMask slot. The
LightMask slot is not read (R159). The output alpha 255 is the spec's from general knowledge (G1). -/
def maskedPixel (pb : List Host.Cell) (g : Nat) : Word :=
  packPixel 255 (mixRgb (slotRgb pb g 0) (slotRgb pb g 2) (avgGrey (slotRgb pb g 6)))

/-- `blendPixel` of ChannelAverage (R157). -/
def averagePixel (pb : List Host.Cell) (g : Nat) : Word :=
  let l := slotRgb pb g 0
  let d := slotRgb pb g 2
  packPixel 255 ⟨halfSum l.r d.r, halfSum l.g d.g, halfSum l.b d.b⟩

/-- The weight of DualMaskAlphaBlend (R158, R160): the bitwise OR of the two luminosity greyscales. -/
def dualMaskWeight (pb : List Host.Cell) (g : Nat) : Byte :=
  lumGrey (slotRgb pb g 4) ||| lumGrey (slotRgb pb g 6)

/-- `blendPixel` of DualMaskAlphaBlend (R158). -/
def dualMaskPixel (pb : List Host.Cell) (g : Nat) : Word :=
  packPixel 255 (mixRgb (slotRgb pb g 0) (slotRgb pb g 2) (dualMaskWeight pb g))

/-- The frame of R150 around a strategy's `blendPixel`. -/
def blendFrame (pixel : List Host.Cell → Nat → Word) (s : State) : State :=
  conclude (rasterCheck s) (rasterDone pixel) s

/-- `BLEND.LIGHT` (R150, R152). -/
def execBlendLight (s : State) : Host.Outcome State Fault Refusal := .next (blendFrame lightPixel s)

/-- `BLEND.LMASK` (R150, R153). -/
def execBlendLMask (s : State) : Host.Outcome State Fault Refusal := .next (blendFrame lightMaskPixel s)

/-- `BLEND.DARK` (R150, R154). -/
def execBlendDark (s : State) : Host.Outcome State Fault Refusal := .next (blendFrame darkPixel s)

/-- `BLEND.DMASK` (R150, R155). -/
def execBlendDMask (s : State) : Host.Outcome State Fault Refusal := .next (blendFrame darkMaskPixel s)

/-- `BLEND.MCOMP` (R150, R156). -/
def execBlendMComp (s : State) : Host.Outcome State Fault Refusal := .next (blendFrame maskedPixel s)

/-- `BLEND.CAVG` (R150, R157). -/
def execBlendCAvg (s : State) : Host.Outcome State Fault Refusal := .next (blendFrame averagePixel s)

/-- `BLEND.DMAB` (R150, R158). -/
def execBlendDmab (s : State) : Host.Outcome State Fault Refusal := .next (blendFrame dualMaskPixel s)

end Sys2Proof.Machine
end

