-- ==== Sys2Proof/Machine/Control.lean ====
section
/-! DEFINITION. The null operation (spec/45_control.md). PTCB has no control transfer and no system operation
(R196, R197). -/

namespace Sys2Proof.Machine

/-- `NOP` (R195): `STATUS` is DONE and `GIDX` 0, nothing else. -/
def execNop (s : State) : Host.Outcome State Fault Refusal := .next (finishDone 0 s)

end Sys2Proof.Machine
end

