-- ==== Sys2Proof/Machine/Encoder.lean ====
section
/-! DEFINITION. The Reconstruction Encoder and the operation `ENCODE` (spec/44_reconstruction_encoder.md). -/

namespace Sys2Proof.Machine

/-- The checks of `ENCODE` in their order (R180, R182, R204 (f)), on exact naturals. -/
def encodeCheck (s : State) : Option ErrorClass :=
  if s.lat.pixels > s.caps.px.val ∨ s.lat.destLen.toNat > s.caps.pb.val then some .param
  else if 8 * s.lat.pixels > s.lat.destLen.toNat then some .size
  else none

/-- The Color565 word of a pixel; its alpha is ignored (R180, R184). -/
def pixelColour (px : List (Nat × Word)) (i : Nat) : Half := encode565 (wordRgb (pxWord px i))

/-- Pixel `i` written into the Light slot of group `i` (R180, R181). -/
def encodePixel (px : List (Nat × Word)) (i : Nat) (pb : List Host.Cell) : List Host.Cell :=
  memWrite16 pb (8 * i) (pixelColour px i)

/-- Pixels `0` to `n − 1` written in increasing order (R187). -/
def encodePixels (px : List (Nat × Word)) : Nat → List Host.Cell → List Host.Cell
  | 0, pb => pb
  | n + 1, pb => encodePixel px n (encodePixels px n pb)

/-- The zero fill: `PB[j] <- 0` for every `j < DESTLEN` (R183, R242). -/
def zeroBytes (n : Nat) (pb : List Host.Cell) : List Host.Cell := Memory.storeRange (fun _ => 0) n pb

/-- The background of the produced buffer (R183): zeroed, or the caller's. -/
def background (f : FillMode) (n : Nat) (pb : List Host.Cell) : List Host.Cell :=
  match f with
  | .zeroFill => zeroBytes n pb
  | .patch => pb

/-- The success of `ENCODE` (R180, R187): the background first, then the pixels. -/
def encodeDone (f : FillMode) (s : State) : State :=
  finishDone s.lat.pixels
    { s with pb := encodePixels s.px s.lat.pixels (background f s.lat.destLen.toNat s.pb) }

/-- `ENCODE` (R180). -/
def execEncode (f : FillMode) (s : State) : Host.Outcome State Fault Refusal :=
  .next (conclude (encodeCheck s) (encodeDone f) s)

end Sys2Proof.Machine
end

