-- ==== Sys2Proof/Machine/Dispatch.lean ====
section
/-! DEFINITION. One arm per operation: the atomic result of the command (R8), from the state START has left (R240). -/

namespace Sys2Proof.Machine

def exec (i : Instr) (s : State) : Host.Outcome State Fault Refusal :=
  match i with
  | .nop => Sys2Proof.Machine.execNop s
  | .dec565 => Sys2Proof.Machine.execDec565 s
  | .enc565 => Sys2Proof.Machine.execEnc565 s
  | .greyAvg => Sys2Proof.Machine.execGreyAvg s
  | .greyLum => Sys2Proof.Machine.execGreyLum s
  | .boff c => Sys2Proof.Machine.execBoff c s
  | .extract c k q g => Sys2Proof.Machine.execExtract c k q g s
  | .blendLight => Sys2Proof.Machine.execBlendLight s
  | .blendLMask => Sys2Proof.Machine.execBlendLMask s
  | .blendDark => Sys2Proof.Machine.execBlendDark s
  | .blendDMask => Sys2Proof.Machine.execBlendDMask s
  | .blendMComp => Sys2Proof.Machine.execBlendMComp s
  | .blendCAvg => Sys2Proof.Machine.execBlendCAvg s
  | .blendDmab => Sys2Proof.Machine.execBlendDmab s
  | .encode f => Sys2Proof.Machine.execEncode f s

end Sys2Proof.Machine
end

