-- ==== Sys2Proof/WellFormed.lean ====
section
/-! DEFINITION. The command word as raw fields (R80) and the legality check on them (R89). A term of `Instr` is
legal by construction; what can be ill-formed is a command word, so the check is on its fields. -/

namespace Sys2Proof

/-- The fields of a command word, each at its own width (R80). -/
structure CommandFields where
  op       : BitVec 4
  strat    : BitVec 3
  chan     : BitVec 2
  maskKind : BitVec 2
  maskReq  : BitVec 2
  greySel  : BitVec 1
  fill     : BitVec 1
  reserved : BitVec 17
deriving DecidableEq, Repr

/-- R89 (1): bits 31:15 are 0. -/
def CommandFields.reservedZero (f : CommandFields) : Bool := f.reserved == 0

/-- R89 (2): `OP` is one of the nine assigned values. -/
def CommandFields.opAssigned (f : CommandFields) : Bool := decide (f.op.toNat ≤ 8)

/-- R89 (3): every field the operation does not use (R81, column "Fields used") is 0. -/
def CommandFields.unusedZero (f : CommandFields) : Bool :=
  (f.op == 7 || f.strat == 0) &&
  (f.op == 5 || f.op == 6 || f.chan == 0) &&
  (f.op == 6 || f.maskKind == 0) &&
  (f.op == 6 || f.maskReq == 0) &&
  (f.op == 6 || f.greySel == 0) &&
  (f.op == 8 || f.fill == 0)

/-- R89 (4): for `BLEND`, `STRAT` is at most 6. -/
def CommandFields.stratAssigned (f : CommandFields) : Bool :=
  !(f.op == 7) || decide (f.strat.toNat ≤ 6)

/-- R89 (5): for `EXTRACT`, `MASKKIND` and `MASKREQ` are at most 2. -/
def CommandFields.maskFieldsAssigned (f : CommandFields) : Bool :=
  !(f.op == 6) || (decide (f.maskKind.toNat ≤ 2) && decide (f.maskReq.toNat ≤ 2))

/-- A command word is legal (R89): all five conditions hold. -/
def CommandFields.wellFormed (f : CommandFields) : Bool :=
  f.reservedZero && f.opAssigned && f.unusedZero && f.stratAssigned && f.maskFieldsAssigned

end Sys2Proof
end

