-- ==== Sys2Proof/Decode.lean ====
section
/-! DEFINITION. The decoder of command words (R80 to R91), total and rejecting by name; the encoder; the opcode
table's match and mask rows (R90). -/

namespace Sys2Proof

/-- Why a command word is illegal (R89, R204 cause (a)). The block reports every one of them as `ParamError`. -/
inductive Illegal where
  /-- A bit of 31:15 is set (R89 (1)). -/
  | reservedBits
  /-- `OP` is 0x9 to 0xF (R89 (2)). -/
  | reservedOp
  /-- A field the operation does not use is not 0 (R89 (3)). -/
  | unusedField
  /-- `STRAT` is 7 (R89 (4)). -/
  | reservedStrat
  /-- `MASKKIND` is 3 (R89 (5)). -/
  | reservedMaskKind
  /-- `MASKREQ` is 3 (R89 (5)). -/
  | reservedMaskReq
deriving DecidableEq, Repr

/-- The fields of a command word, at the bit positions of R80. -/
def commandFields (w : Word) : CommandFields where
  op       := w.extractLsb' 0 4
  strat    := w.extractLsb' 4 3
  chan     := w.extractLsb' 7 2
  maskKind := w.extractLsb' 9 2
  maskReq  := w.extractLsb' 11 2
  greySel  := w.extractLsb' 13 1
  fill     := w.extractLsb' 14 1
  reserved := w.extractLsb' 15 17

/-- R83. All four values are legal. -/
def channelOf (v : BitVec 2) : Channel :=
  match v.toNat with
  | 0 => .light
  | 1 => .dark
  | 2 => .lightMask
  | _ => .darkMask

/-- R84; 3 is reserved. -/
def maskKindOf (v : BitVec 2) : Option MaskKind :=
  match v.toNat with
  | 0 => some .none
  | 1 => some .alpha
  | 2 => some .inverseAlpha
  | _ => Option.none

/-- R85; 3 is reserved. -/
def maskReqOf (v : BitVec 2) : Option MaskReq :=
  match v.toNat with
  | 0 => some .unspecified
  | 1 => some .light
  | 2 => some .dark
  | _ => Option.none

/-- R86. -/
def greySelOf (v : BitVec 1) : GreySel :=
  match v.toNat with
  | 0 => .averaged
  | _ => .luminosity

/-- R87. -/
def fillModeOf (v : BitVec 1) : FillMode :=
  match v.toNat with
  | 0 => .zeroFill
  | _ => .patch

/-- R82: the blend strategy a `STRAT` value selects; 7 is reserved. -/
def blendOf (v : BitVec 3) : Option Instr :=
  match v.toNat with
  | 0 => some .blendLight
  | 1 => some .blendLMask
  | 2 => some .blendDark
  | 3 => some .blendDMask
  | 4 => some .blendMComp
  | 5 => some .blendCAvg
  | 6 => some .blendDmab
  | _ => Option.none

/-- An operation that uses no field besides `OP` (R81): every other field must be 0 (R89 (3)). -/
def decodePlain (f : CommandFields) (i : Instr) : Except Illegal Instr :=
  if f.strat = 0 ∧ f.chan = 0 ∧ f.maskKind = 0 ∧ f.maskReq = 0 ∧ f.greySel = 0 ∧ f.fill = 0 then .ok i
  else .error .unusedField

/-- `BOFF` uses `CHAN` only (R81). -/
def decodeBoff (f : CommandFields) : Except Illegal Instr :=
  if f.strat = 0 ∧ f.maskKind = 0 ∧ f.maskReq = 0 ∧ f.greySel = 0 ∧ f.fill = 0 then .ok (.boff (channelOf f.chan))
  else .error .unusedField

/-- `EXTRACT` uses `CHAN`, `MASKKIND`, `MASKREQ` and `GREYSEL` (R81). A reserved `MASKREQ` is illegal even when
`MASKKIND` is None (R91). -/
def decodeExtract (f : CommandFields) : Except Illegal Instr :=
  if f.strat = 0 ∧ f.fill = 0 then
    match maskKindOf f.maskKind with
    | Option.none => .error .reservedMaskKind
    | some k =>
      match maskReqOf f.maskReq with
      | Option.none => .error .reservedMaskReq
      | some q => .ok (.extract (channelOf f.chan) k q (greySelOf f.greySel))
  else .error .unusedField

/-- `BLEND` uses `STRAT` only (R81, R82). -/
def decodeBlend (f : CommandFields) : Except Illegal Instr :=
  if f.chan = 0 ∧ f.maskKind = 0 ∧ f.maskReq = 0 ∧ f.greySel = 0 ∧ f.fill = 0 then
    match blendOf f.strat with
    | Option.none => .error .reservedStrat
    | some i => .ok i
  else .error .unusedField

/-- `ENCODE` uses `FILL` only (R81). -/
def decodeEncode (f : CommandFields) : Except Illegal Instr :=
  if f.strat = 0 ∧ f.chan = 0 ∧ f.maskKind = 0 ∧ f.maskReq = 0 ∧ f.greySel = 0 then .ok (.encode (fillModeOf f.fill))
  else .error .unusedField

/-- The operation a command word encodes (R81), or why it is illegal (R89). -/
def decode (w : Word) : Except Illegal Instr :=
  let f := commandFields w
  if f.reserved ≠ 0 then .error .reservedBits
  else
    match f.op.toNat with
    | 0 => decodePlain f .nop
    | 1 => decodePlain f .dec565
    | 2 => decodePlain f .enc565
    | 3 => decodePlain f .greyAvg
    | 4 => decodePlain f .greyLum
    | 5 => decodeBoff f
    | 6 => decodeExtract f
    | 7 => decodeBlend f
    | 8 => decodeEncode f
    | _ => .error .reservedOp

/-- R83, the number of a channel. -/
def channelCode : Channel → BitVec 2
  | .light => 0
  | .dark => 1
  | .lightMask => 2
  | .darkMask => 3

/-- R84, the number of a mask kind. -/
def maskKindCode : MaskKind → BitVec 2
  | .none => 0
  | .alpha => 1
  | .inverseAlpha => 2

/-- R85, the number of a mask request. -/
def maskReqCode : MaskReq → BitVec 2
  | .unspecified => 0
  | .light => 1
  | .dark => 2

/-- R86, the number of a greyscale selector. -/
def greySelCode : GreySel → BitVec 1
  | .averaged => 0
  | .luminosity => 1

/-- R87, the number of a fill mode. -/
def fillModeCode : FillMode → BitVec 1
  | .zeroFill => 0
  | .patch => 1

/-- All fields 0 but `OP`. -/
def opFields (op : BitVec 4) : CommandFields where
  op := op
  strat := 0
  chan := 0
  maskKind := 0
  maskReq := 0
  greySel := 0
  fill := 0
  reserved := 0

/-- The fields of an operation (R81 to R87). -/
def instrFields : Instr → CommandFields
  | .nop => opFields 0
  | .dec565 => opFields 1
  | .enc565 => opFields 2
  | .greyAvg => opFields 3
  | .greyLum => opFields 4
  | .boff c => { opFields 5 with chan := channelCode c }
  | .extract c k q g =>
    { opFields 6 with
      chan := channelCode c, maskKind := maskKindCode k, maskReq := maskReqCode q, greySel := greySelCode g }
  | .blendLight => { opFields 7 with strat := 0 }
  | .blendLMask => { opFields 7 with strat := 1 }
  | .blendDark => { opFields 7 with strat := 2 }
  | .blendDMask => { opFields 7 with strat := 3 }
  | .blendMComp => { opFields 7 with strat := 4 }
  | .blendCAvg => { opFields 7 with strat := 5 }
  | .blendDmab => { opFields 7 with strat := 6 }
  | .encode m => { opFields 8 with fill := fillModeCode m }

/-- The fields laid into a word at the positions of R80, high field first. -/
def packFields (f : CommandFields) : Word :=
  f.reserved ++ f.fill ++ f.greySel ++ f.maskReq ++ f.maskKind ++ f.chan ++ f.strat ++ f.op

/-- The command word of an operation (R80, R94). -/
def encode (i : Instr) : Word := packFields (instrFields i)

/-- One row of R90's table. -/
structure OpcodeRow where
  mnemonic : String
  matchWord : Word
  mask : Word
deriving DecidableEq, Repr

/-- The row of an operation (R90; spec/opcode_table.json, columns match and mask). -/
def opcodeRow : Instr → OpcodeRow
  | .nop => ⟨"NOP", 0x00000000, 0xFFFFFFFF⟩
  | .dec565 => ⟨"DEC565", 0x00000001, 0xFFFFFFFF⟩
  | .enc565 => ⟨"ENC565", 0x00000002, 0xFFFFFFFF⟩
  | .greyAvg => ⟨"GREYAVG", 0x00000003, 0xFFFFFFFF⟩
  | .greyLum => ⟨"GREYLUM", 0x00000004, 0xFFFFFFFF⟩
  | .boff _ => ⟨"BOFF", 0x00000005, 0xFFFFFE7F⟩
  | .extract _ _ _ _ => ⟨"EXTRACT", 0x00000006, 0xFFFFC07F⟩
  | .blendLight => ⟨"BLEND.LIGHT", 0x00000007, 0xFFFFFFFF⟩
  | .blendLMask => ⟨"BLEND.LMASK", 0x00000017, 0xFFFFFFFF⟩
  | .blendDark => ⟨"BLEND.DARK", 0x00000027, 0xFFFFFFFF⟩
  | .blendDMask => ⟨"BLEND.DMASK", 0x00000037, 0xFFFFFFFF⟩
  | .blendMComp => ⟨"BLEND.MCOMP", 0x00000047, 0xFFFFFFFF⟩
  | .blendCAvg => ⟨"BLEND.CAVG", 0x00000057, 0xFFFFFFFF⟩
  | .blendDmab => ⟨"BLEND.DMAB", 0x00000067, 0xFFFFFFFF⟩
  | .encode _ => ⟨"ENCODE", 0x00000008, 0xFFFFBFFF⟩

/-- `w` selects the row: `w & mask = match` (R90). -/
def OpcodeRow.selects (r : OpcodeRow) (w : Word) : Bool := w &&& r.mask == r.matchWord

/-- The instruction the decoder reads from a table word: a command is one 32-bit word, whose bits at `nbits` and
above are 0. -/
def decodeTableWord (nbits w : Nat) : Option Instr :=
  match decode (BitVec.ofNat 32 (w % 2 ^ nbits)) with
  | .ok i => some i
  | .error _ => none

end Sys2Proof
end

