-- ==== Sys2Proof/Machine/Sequencer.lean ====
section
/-! DEFINITION. The block's micro-steps CHECK, FILL, PIXEL and FINISH (R241 to R244) and the reset event (R230). -/

namespace Sys2Proof.Machine

/-- The checks of an operation besides legality, in the order of R207. -/
def operationCheck : Instr → State → Option ErrorClass
  | .nop, _ => none
  | .dec565, _ => none
  | .enc565, _ => none
  | .greyAvg, _ => none
  | .greyLum, _ => none
  | .boff c, s => boffCheck c s
  | .extract c k _ _, s => extractCheck c k s
  | .blendLight, s => rasterCheck s
  | .blendLMask, s => rasterCheck s
  | .blendDark, s => rasterCheck s
  | .blendDMask, s => rasterCheck s
  | .blendMComp, s => rasterCheck s
  | .blendCAvg, s => rasterCheck s
  | .blendDmab, s => rasterCheck s
  | .encode _, s => encodeCheck s

/-- What is left to do once CHECK has passed (R241). -/
inductive Work where
  /-- `NOP`, a scalar operation or `BOFF`: the results are written at once. -/
  | atOnce (result : State)
  /-- `EXTRACT` or a `BLEND.*`: the pixel of each group. -/
  | raster (pixel : List Host.Cell → Nat → Word)
  /-- `ENCODE`. -/
  | encoder (f : FillMode)

/-- The work of an operation started in state `s` (R241, R243). -/
def operationWork : Instr → State → Work
  | .nop, s => .atOnce (finishDone 0 s)
  | .dec565, s => .atOnce (scalarDone (dec565Result s.lat) s)
  | .enc565, s => .atOnce (scalarDone (enc565Result s.lat) s)
  | .greyAvg, s => .atOnce (scalarDone (greyAvgResult s.lat) s)
  | .greyLum, s => .atOnce (scalarDone (greyLumResult s.lat) s)
  | .boff c, s => .atOnce (boffDone c s)
  | .extract c k q g, _ => .raster (extractPixel c k q g)
  | .blendLight, _ => .raster lightPixel
  | .blendLMask, _ => .raster lightMaskPixel
  | .blendDark, _ => .raster darkPixel
  | .blendDMask, _ => .raster darkMaskPixel
  | .blendMComp, _ => .raster maskedPixel
  | .blendCAvg, _ => .raster averagePixel
  | .blendDmab, _ => .raster dualMaskPixel
  | .encode f, _ => .encoder f

/-- The phase after a passed CHECK, with the results of an operation that needs no other phase (R241). -/
def beginWork (s : State) : Work → State
  | .atOnce r => r
  | .raster _ => { s with phase := .run }
  | .encoder .zeroFill => { s with phase := .fill }
  | .encoder .patch => { s with phase := .run }

/-- Micro-step CHECK (R241): the operation `lat.CMD` selects, its checks in the order of R207. -/
def checkStep (s : State) : State :=
  match decode s.lat.cmd with
  | .error _ => raiseError .param s
  | .ok i => conclude (operationCheck i s) (fun s => beginWork s (operationWork i s)) s

/-- Micro-step FILL (R242). -/
def fillStep (s : State) : State :=
  { s with pb := zeroBytes s.lat.destLen.toNat s.pb, phase := .run }

/-- How many PIXEL steps an operation takes: `N`, `P`, or none (R243). -/
def workCount (l : Latch) : Work → Nat
  | .atOnce _ => 0
  | .raster _ => l.groups
  | .encoder _ => l.pixels

/-- Micro-step PIXEL of group `g` (R243). -/
def pixelStep (s : State) (g : Nat) : Work → State
  | .atOnce _ => s
  | .raster pixel =>
    { s with px := Memory.store s.px g (pixel s.pb g), gidx := BitVec.ofNat 32 (g + 1) }
  | .encoder _ => { s with pb := encodePixel s.px g s.pb, gidx := BitVec.ofNat 32 (g + 1) }

/-- Micro-step FINISH (R244). -/
def finishStep (s : State) : Work → State
  | .atOnce _ => { s with status := statusDone, phase := .rest }
  | .raster _ =>
    { s with
      outW := BitVec.ofNat 32 s.lat.outWidth
      outH := BitVec.ofNat 32 s.lat.outHeight
      status := statusDone
      phase := .rest }
  | .encoder _ => { s with status := statusDone, phase := .rest }

/-- A step in phase RUN (R243, R244): PIXEL while groups remain, then FINISH. An illegal `lat.CMD` has failed in
CHECK and never reaches this phase. -/
def runStep (s : State) : State :=
  match decode s.lat.cmd with
  | .error _ => raiseError .param s
  | .ok i =>
    if s.gidx.toNat < workCount s.lat (operationWork i s) then pixelStep s s.gidx.toNat (operationWork i s)
    else finishStep s (operationWork i s)

/-- The block's next micro-step; at rest the block keeps all its state (R218, R236). -/
def blockStep (s : State) : State :=
  match s.phase with
  | .rest => s
  | .check => checkStep s
  | .fill => fillStep s
  | .run => runStep s

/-- What a reset leaves of the output range of the command it abandons: unspecified values (R230, log entry 4). -/
def loseOutput (s : State) : Work → State
  | .atOnce _ => s
  | .raster _ => { s with px := Memory.storeRange (Config.pxAbandoned s.abandoned) s.lat.groups s.px }
  | .encoder _ => { s with pb := Memory.storeRange (Config.pbAbandoned s.abandoned) s.lat.destLen.toNat s.pb }

/-- The memories after a reset that interrupts a command (R230). A command that fails its checks has no output. -/
def abandonCommand (s : State) : State :=
  match decode s.lat.cmd with
  | .error _ => s
  | .ok i =>
    match operationCheck i s with
    | some _ => s
    | none => { loseOutput s (operationWork i s) with abandoned := s.abandoned + 1 }

/-- The registers, the sequencer and the latch as reset leaves them (R40, R230). PB and PX are kept. -/
def resetRegisters (s : State) : State :=
  { State.reset with
    pb := s.pb
    px := s.px
    caps := s.caps
    host := s.host
    reply := s.reply
    abandoned := s.abandoned }

/-- The reset event (R230): at rest the registers only, while a command runs its output range too. -/
def resetEvent (s : State) : State := resetRegisters (if s.busy then abandonCommand s else s)

end Sys2Proof.Machine
end

