-- ==== Sys2Proof/Machine/HostPort.lean ====
section
/-! DEFINITION. What the host can do to the block (R197, R236): the register space (R21, R41, R42), the two memory
ports (R58, R59), a command, the polling loop, reset; and the host notation of R92 and R93. -/

namespace Sys2Proof.Machine

/-- A host read of the register at an offset of the register space (R21); 0 at 0x40 and above (R41). -/
def readRegister (s : State) (offset : Nat) : Word :=
  match offset with
  | 0x00 => s.cmd
  | 0x04 => s.status
  | 0x08 => s.width
  | 0x0C => s.height
  | 0x10 => s.bufLen
  | 0x14 => s.imgW
  | 0x18 => s.imgH
  | 0x1C => s.destLen
  | 0x20 => s.opa
  | 0x24 => s.xOut
  | 0x28 => s.yOut
  | 0x2C => s.res0
  | 0x30 => s.res1
  | 0x34 => s.outW
  | 0x38 => s.outH
  | 0x3C => s.gidx
  | _ => 0

/-- A host write to the register space while no command runs: offset 0 starts a command (R22), a parameter register
takes the value (R21), a read-only register or an offset of 0x40 and above ignores it (R41). -/
def writeRegister (s : State) (offset : Nat) (v : Word) : State :=
  match offset with
  | 0x00 => startCommand v s
  | 0x08 => { s with width := v }
  | 0x0C => { s with height := v }
  | 0x10 => { s with bufLen := v }
  | 0x14 => { s with imgW := v }
  | 0x18 => { s with imgH := v }
  | 0x1C => { s with destLen := v }
  | 0x20 => { s with opa := v }
  | 0x24 => { s with xOut := v }
  | 0x28 => { s with yOut := v }
  | _ => s

/-- A register access R60 gives a meaning: 32 bits at a multiple of 4. -/
abbrev registerShape (offset bytes : Nat) : Prop := bytes = 4 ∧ offset % 4 = 0

/-- The reply of a host read. Reads have no other effect (R41, R61). -/
def answer (v : Word) (s : State) : State := { s with reply := some v }

/-- `rd` (R92): allowed at any time (R42). -/
def hostReadReg (offset bytes : Nat) (s : State) : Host.Outcome State Fault Refusal :=
  if registerShape offset bytes then .next (answer (readRegister s offset) s)
  else .refused (.registerAccessShape offset bytes)

/-- `wr` (R92): dropped while a command runs (R42, R247). -/
def hostWriteReg (offset bytes : Nat) (v : Word) (s : State) : Host.Outcome State Fault Refusal :=
  if registerShape offset bytes then .next (if s.busy then s else writeRegister s offset v)
  else .refused (.registerAccessShape offset bytes)

/-- `pbr` (R58, R92), refused while a command runs (R245, U9). -/
def hostReadPB (a : Nat) (s : State) : Host.Outcome State Fault Refusal :=
  if s.busy then .refused .memoryPortWhileBusy
  else if a < s.caps.pb.val then .next (answer ((pbByte s.pb a).setWidth 32) s)
  else .fault (.pbIndexBeyondCapacity a)

/-- `pbw` (R58, R92), refused while a command runs (R245, U9). -/
def hostWritePB (a : Nat) (v : Byte) (s : State) : Host.Outcome State Fault Refusal :=
  if s.busy then .refused .memoryPortWhileBusy
  else if a < s.caps.pb.val then .next { s with pb := Memory.store s.pb a v }
  else .fault (.pbIndexBeyondCapacity a)

/-- `pxr` (R59, R92), refused while a command runs (R245, U9). -/
def hostReadPX (i : Nat) (s : State) : Host.Outcome State Fault Refusal :=
  if s.busy then .refused .memoryPortWhileBusy
  else if i < s.caps.px.val then .next (answer (pxWord s.px i) s)
  else .fault (.pxIndexBeyondCapacity i)

/-- `pxw` (R59, R92), refused while a command runs (R245, U9). -/
def hostWritePX (i : Nat) (v : Word) (s : State) : Host.Outcome State Fault Refusal :=
  if s.busy then .refused .memoryPortWhileBusy
  else if i < s.caps.px.val then .next { s with px := Memory.store s.px i v }
  else .fault (.pxIndexBeyondCapacity i)

/-- The operation a command word selects, run whole from the state START has left (R8, R89, R204 (a)). -/
def runCommand (w : Word) (s : State) : Host.Outcome State Fault Refusal :=
  match decode w with
  | .ok i => exec i s
  | .error _ => .next (raiseError .param s)

/-- A `CMD` write with its whole command as one step (R65, R244); dropped while a command runs (R42). -/
def hostCommand (w : Word) (s : State) : Host.Outcome State Fault Refusal :=
  if s.busy then .next s else runCommand w (startCommand w s)

/-- One turn of the polling loop `wait` (R92): `STATUS` is read; while it says BUSY the block moves and the loop
goes on. -/
def hostWait (s : State) : Host.Outcome State Fault Refusal :=
  let t := answer s.status s
  if s.busy then .next { blockStep t with host := .wait :: s.host } else .next t

/-- One host action, in the state whose `host` no longer lists it. -/
def hostStep (a : HostAction) (s : State) : Host.Outcome State Fault Refusal :=
  match a with
  | .readReg offset bytes => hostReadReg offset bytes s
  | .writeReg offset bytes v => hostWriteReg offset bytes v s
  | .readPB a => hostReadPB a s
  | .writePB a v => hostWritePB a v s
  | .readPX i => hostReadPX i s
  | .writePX i v => hostWritePX i v s
  | .command w => hostCommand w s
  | .wait => hostWait s
  | .quiet => .next (blockStep s)
  | .reset => .next (resetEvent s)

/-- The machine's step: the host's next action, or the block's next micro-step when the host is silent (R236, R249). -/
def machineStep (s : State) : Host.Outcome State Fault Refusal :=
  match s.host with
  | [] => .next (blockStep s)
  | a :: rest => hostStep a { s with host := rest }

/-- The block able to take a command: a running command is taken as ended. -/
def settled (s : State) : State :=
  if s.busy then { s with status := statusDone, phase := .rest } else s

/-- The state whose next step runs the command word `w`: the host's next action is that command. -/
def withCommandWord (s : State) (w : Word) : State :=
  { settled s with host := .command w :: s.host }

/-! ## Host notation (R92, R93): the lines that abbreviate several actions -/

/-- `pbw16 a, w` (R92). -/
def linePbw16 (a : Nat) (w : Half) : List HostAction :=
  [.writePB a (w.extractLsb' 0 8), .writePB (a + 1) (w.extractLsb' 8 8)]

/-- `cmd M …` (R92). -/
def lineCmd (i : Instr) : List HostAction := [.writeReg 0 4 (encode i)]

/-- `run M …` (R93). -/
def lineRun (i : Instr) : List HostAction := lineCmd i ++ [.wait]

/-- `load565 g, c, w` (R93). -/
def lineLoad565 (g : Nat) (c : Channel) (w : Half) : List HostAction := linePbw16 (byteOffset g c) w

/-- `setdims W, H, L` (R93). -/
def lineSetDims (w h l : Word) : List HostAction :=
  [.writeReg 0x08 4 w, .writeReg 0x0C 4 h, .writeReg 0x10 4 l]

/-- `blend.default` (R93). -/
def lineBlendDefault : List HostAction := lineCmd .blendDmab

/-- `extract.opaque C` (R93). -/
def lineExtractOpaque (c : Channel) : List HostAction := lineCmd (.extract c .none .unspecified .averaged)

end Sys2Proof.Machine
end

