-- ==== Sys2Proof/Machine/Step.lean ====
section
/-! DEFINITION. The step, and where a command word is placed so that the next step runs it. -/

namespace Sys2Proof.Machine

/-- One step of the machine (R236). -/
def step (s : State) : Host.Outcome State Fault Refusal := machineStep s

/-- `s` with the command word `w` as the host's next action. PTCB fetches nothing (R32, R68): a command comes from the
host's `CMD` write, so that write is what stands where `step` finds its next operation (log entry 1). -/
def State.withFetchWord (s : State) (nbits w : Nat) : State :=
  withCommandWord s (BitVec.ofNat 32 (w % 2 ^ nbits))

end Sys2Proof.Machine
end

