-- ==== Sys2Proof/Safety.lean ====
section
/-! DEFINITION. What a well-kept state is: the facts the spec's rules give of every state the machine reaches. -/

namespace Sys2Proof.Machine

/-- The operations that count groups or pixels (R32). -/
def Work.isLoop : Work → Bool
  | .atOnce _ => false
  | .raster _ => true
  | .encoder _ => true

/-- The invariant of the machine (R23, R32, R33, R35, R36, R40, R241). -/
structure State.Inv (s : State) : Prop where
  /-- PB is in its canonical form, inside its capacity (R35). -/
  pbForm : Memory.wf s.caps.pb.val s.pb
  /-- PX is in its canonical form, inside its capacity (R36). -/
  pxForm : Memory.wf s.caps.px.val s.px
  /-- `STATUS` holds one of its seven values (R23). -/
  statusForm : statusLegal s.status = true
  /-- `STATE = BUSY` exactly when `PHASE ≠ REST` (R32). -/
  busyPhase : s.busy = true ↔ s.phase ≠ .rest
  /-- While a command runs the latch equals the registers (R33). -/
  latched : s.phase ≠ .rest → s.lat = s.latchNow
  /-- IDLE is the state since reset: no command has been stored or has reported anything (R23, R40). -/
  idleBlank : s.status = 0 →
    s.cmd = 0 ∧ s.res0 = 0 ∧ s.res1 = 0 ∧ s.outW = 0 ∧ s.outH = 0 ∧ s.gidx = 0 ∧ s.lat = Latch.zero
  /-- On error `GIDX` is 0 (R32). -/
  errorIndex : statusState s.status = .error → s.gidx = 0
  /-- Before the loop `GIDX` is 0 (R32, R240). -/
  startIndex : s.phase = .check ∨ s.phase = .fill → s.gidx = 0
  /-- Phase FILL belongs to an `ENCODE` with ZeroFill whose checks have passed (R241). -/
  fillWork : s.phase = .fill → decode s.lat.cmd = .ok (.encode .zeroFill) ∧ encodeCheck s = none
  /-- Phase RUN belongs to a raster operation or `ENCODE` whose checks have passed, and `GIDX` has not passed the
  count (R241, R243). -/
  runWork : s.phase = .run →
    ∃ i, decode s.lat.cmd = .ok i ∧ operationCheck i s = none ∧ (operationWork i s).isLoop = true ∧
      s.gidx.toNat ≤ workCount s.lat (operationWork i s)

/-! ## The terms the claims are stated in -/

/-- When a raster read operation passes its checks, but for ConfigurationError (R125, R135, R150). -/
abbrev RasterReady (s : State) : Prop :=
  s.lat.width.toNat % 4 = 0 ∧ s.lat.height.toNat % 4 = 0 ∧ s.lat.bufLen.toNat ≤ s.caps.pb.val ∧
    s.lat.width.toNat / 4 * (s.lat.height.toNat / 4) ≤ s.caps.px.val ∧
    8 * (s.lat.width.toNat / 4 * (s.lat.height.toNat / 4)) ≤ s.lat.bufLen.toNat

/-- When `ENCODE` passes its checks (R180). -/
abbrev EncodeReady (s : State) : Prop :=
  s.lat.imgW.toNat * s.lat.imgH.toNat ≤ s.caps.px.val ∧ s.lat.destLen.toNat ≤ s.caps.pb.val ∧
    8 * (s.lat.imgW.toNat * s.lat.imgH.toNat) ≤ s.lat.destLen.toNat

/-- The state a raster read operation leaves when pixel `n` of its output is `pixel n` (R135, R150): PX below the
number of groups, `OUTW`, `OUTH`, `GIDX` and `STATUS` are written, and nothing else is. -/
def RasterResult (pixel : Nat → Word) (s t : State) : Prop :=
  t = { s with px := t.px, outW := t.outW, outH := t.outH, gidx := t.gidx, status := 0x02, phase := .rest } ∧
    t.outW.toNat = s.lat.width.toNat / 4 ∧ t.outH.toNat = s.lat.height.toNat / 4 ∧
    t.gidx.toNat = s.lat.width.toNat / 4 * (s.lat.height.toNat / 4) ∧
    ∀ n, pxWord t.px n =
      if n < s.lat.width.toNat / 4 * (s.lat.height.toNat / 4) then pixel n else pxWord s.px n

/-- The state a failed command leaves: `STATUS` and `GIDX` alone are written (R206, R211). -/
abbrev failedWith (status : Word) (s : State) : State := { s with status := status, gidx := 0, phase := .rest }

/-- The decoded colour of the slot at byte `off` of group `n` (R100, R134). -/
abbrev groupColour (s : State) (n off : Nat) : Rgb := decode565 (memRead16 s.pb (8 * n + off))

/-- What START puts into the latch (R33, R240). -/
abbrev latchFor (w : Word) (s : State) : Latch where
  cmd := w
  width := s.width
  height := s.height
  bufLen := s.bufLen
  imgW := s.imgW
  imgH := s.imgH
  destLen := s.destLen
  opa := s.opa
  xOut := s.xOut
  yOut := s.yOut

/-- The state START leaves (R240). -/
abbrev started (w : Word) (s : State) : State :=
  { s with cmd := w, lat := latchFor w s, status := 0x01, gidx := 0, phase := .check }

/-- The seven `BLEND.*` operations (R82). -/
abbrev blends : List Instr :=
  [.blendLight, .blendLMask, .blendDark, .blendDMask, .blendMComp, .blendCAvg, .blendDmab]

end Sys2Proof.Machine
end

