-- ==== Sys2Proof/Certificates/Slice0/Obligations.lean ====
section
/-! DEFINITION. The statements for the provers. Each docstring names the rules of spec/ it rests on. -/

open Sys2Proof Sys2Proof.Machine

/-! ## The command word -/

/-- R80 to R91, R94: a word decodes to an operation exactly when it is that operation's own command word. -/
def Obligations.DecodeInvertsEncodeExactly : Prop :=
  ∀ (w : Word) (i : Instr), decode w = .ok i ↔ w = encode i

/-- R89: the five conditions, on the bits of the word; every other word ends at once in ParamError and does nothing
else. -/
def Obligations.LegalWordsRunOthersEndInParamError : Prop :=
  ∀ w : Word,
    ((∃ i, decode w = .ok i) ↔
      w.toNat / 32768 = 0 ∧ w.toNat % 16 ≤ 8 ∧
      (w.toNat % 16 ≠ 7 → w.toNat / 16 % 8 = 0) ∧
      (w.toNat % 16 ≠ 5 → w.toNat % 16 ≠ 6 → w.toNat / 128 % 4 = 0) ∧
      (w.toNat % 16 ≠ 6 → w.toNat / 512 % 4 = 0 ∧ w.toNat / 2048 % 4 = 0 ∧ w.toNat / 8192 % 2 = 0) ∧
      (w.toNat % 16 ≠ 8 → w.toNat / 16384 % 2 = 0) ∧
      (w.toNat % 16 = 7 → w.toNat / 16 % 8 ≤ 6) ∧
      (w.toNat % 16 = 6 → w.toNat / 512 % 4 ≤ 2 ∧ w.toNat / 2048 % 4 ≤ 2)) ∧
    ((∀ i, decode w ≠ .ok i) →
      ∀ (s : State) (rest : List HostAction), s.busy = false → s.host = .command w :: rest →
        step s = .next (failedWith 0x43 (started w { s with host := rest })))

/-- R89: the decoder accepts a word exactly when its fields pass the five checks of `CommandFields.wellFormed`, and
what it reads encodes to well-formed fields. -/
def Obligations.DecoderAcceptsTheWellFormedWords : Prop :=
  (∀ w : Word, (∃ i, decode w = .ok i) ↔ (commandFields w).wellFormed = true) ∧
  (∀ i : Instr, (commandFields (encode i)).wellFormed = true)

/-- R90: the word of an operation selects its row of the table and no other row; a word that selects a row is one of
its operations, unless the row is `EXTRACT` and a field of rule R89 (5) is reserved, and then it is illegal. -/
def Obligations.OpcodeRowsSelectTheOperations : Prop :=
  ∀ w : Word,
    (∀ i, decode w = .ok i → (opcodeRow i).selects w = true) ∧
    (∀ i, (opcodeRow i).selects w = true →
      (∃ j, decode w = .ok j ∧ opcodeRow j = opcodeRow i) ∨
        ((opcodeRow i).mnemonic = "EXTRACT" ∧ (w.toNat / 512 % 4 = 3 ∨ w.toNat / 2048 % 4 = 3) ∧
          ∀ j, decode w ≠ .ok j)) ∧
    (∀ i j, (opcodeRow i).selects w = true → (opcodeRow j).selects w = true → opcodeRow i = opcodeRow j)

/-- R94: the spec's worked encodings, the five legal words with the operations they stand for and the five illegal
ones. A sanity check on written-out words. -/
def Obligations.WorkedEncodingsDecode : Prop :=
  decode 0x00001286 = .ok (.extract .dark .alpha .dark .averaged) ∧
  decode 0x00002406 = .ok (.extract .light .inverseAlpha .unspecified .luminosity) ∧
  decode 0x00000185 = .ok (.boff .darkMask) ∧
  decode 0x00004008 = .ok (.encode .patch) ∧
  decode 0x00000067 = .ok .blendDmab ∧
  decode 0x00000009 = .error .reservedOp ∧
  decode 0x00000077 = .error .reservedStrat ∧
  decode 0x00000081 = .error .unusedField ∧
  decode 0x00000606 = .error .reservedMaskKind ∧
  decode 0x00008000 = .error .reservedBits

/-! ## The Channel Codec -/

/-- R100: for every 16-bit word `w`, `decode565` gives `w[15:11]` times 8, `w[10:5]` times 4 and `w[4:0]` times 8, so
the low 3, 2 and 3 bits are 0 and the channels are at most 248, 252 and 248; 0xFFFF gives exactly these. -/
def Obligations.ExpansionShiftsTheFields : Prop :=
  (∀ w : Half,
    (decode565 w).r.toNat = w.toNat / 2048 * 8 ∧ (decode565 w).g.toNat = w.toNat / 32 % 64 * 4 ∧
    (decode565 w).b.toNat = w.toNat % 32 * 8 ∧
    (decode565 w).r.toNat % 8 = 0 ∧ (decode565 w).g.toNat % 4 = 0 ∧ (decode565 w).b.toNat % 8 = 0 ∧
    (decode565 w).r.toNat ≤ 248 ∧ (decode565 w).g.toNat ≤ 252 ∧ (decode565 w).b.toNat ≤ 248) ∧
  decode565 0xFFFF = ⟨248, 252, 248⟩

/-- R101: for every triple, `encode565` is the sum of `r` div 8 times 2048, `g` div 4 times 32 and `b` div 8: the
three terms add up without a carry. -/
def Obligations.PackingDropsTheLowBits : Prop :=
  ∀ c : Rgb, (encode565 c).toNat = c.r.toNat / 8 * 2048 + c.g.toNat / 4 * 32 + c.b.toNat / 8

/-- R104 (a) to (d): packing after expansion is the identity; expansion after packing clears the low 3, 2 and 3 bits,
lowers a channel by at most 7, 3 and 7, and never raises it; every word is reached, two triples pack to one word
exactly when they agree above the dropped bits, and two words never expand to one triple. -/
def Obligations.PackingAndExpansionCompose : Prop :=
  (∀ w : Half, encode565 (decode565 w) = w) ∧
  (∀ c : Rgb,
    decode565 (encode565 c) = ⟨c.r &&& 0xF8, c.g &&& 0xFC, c.b &&& 0xF8⟩ ∧
    (decode565 (encode565 c)).r.toNat ≤ c.r.toNat ∧ c.r.toNat ≤ (decode565 (encode565 c)).r.toNat + 7 ∧
    (decode565 (encode565 c)).g.toNat ≤ c.g.toNat ∧ c.g.toNat ≤ (decode565 (encode565 c)).g.toNat + 3 ∧
    (decode565 (encode565 c)).b.toNat ≤ c.b.toNat ∧ c.b.toNat ≤ (decode565 (encode565 c)).b.toNat + 7) ∧
  (∀ c d : Rgb, encode565 c = encode565 d ↔
    c.r.toNat / 8 = d.r.toNat / 8 ∧ c.g.toNat / 4 = d.g.toNat / 4 ∧ c.b.toNat / 8 = d.b.toNat / 8) ∧
  (∀ v w : Half, decode565 v = decode565 w → v = w)

/-- R102: `avgGrey` is `(r + g + b)` div 3, the sum is at most 765, and white and black give 255 and 0. -/
def Obligations.AveragedGreyscaleTruncates : Prop :=
  (∀ c : Rgb, (avgGrey c).toNat = (c.r.toNat + c.g.toNat + c.b.toNat) / 3) ∧
  (∀ c : Rgb, c.r.toNat + c.g.toNat + c.b.toNat ≤ 765) ∧
  avgGrey ⟨255, 255, 255⟩ = 255 ∧ avgGrey ⟨0, 0, 0⟩ = 0

/-- R103, U1: `lumGrey` is `(2126 r + 7152 g + 722 b + 5000)` div 10000 and is never narrowed; it keeps a grey as it
is, is monotone in each channel, and never meets a tie on an expanded Color565 word. The weights and the rounding of a
tie are the defaults R103 fixes (log entry 7). -/
def Obligations.LuminosityGreyscaleRounds : Prop :=
  (∀ c : Rgb,
    (lumGrey c).toNat = (2126 * c.r.toNat + 7152 * c.g.toNat + 722 * c.b.toNat + 5000) / 10000) ∧
  (∀ v : Byte, lumGrey ⟨v, v, v⟩ = v) ∧
  (∀ c d : Rgb, c.r.toNat ≤ d.r.toNat → c.g.toNat ≤ d.g.toNat → c.b.toNat ≤ d.b.toNat →
    (lumGrey c).toNat ≤ (lumGrey d).toNat) ∧
  (∀ w : Half,
    (2126 * (decode565 w).r.toNat + 7152 * (decode565 w).g.toNat + 722 * (decode565 w).b.toNat) % 10000 ≠ 5000)

/-- R105: `DEC565`, command word 0x00000001, completes from every state: `RES0` is `{0x00, r, g, b}`, the expansion of
`OPA[15:0]`, `STATUS` is DONE, `GIDX` is 0, and nothing else changes. -/
def Obligations.Dec565WritesTheExpandedColour : Prop :=
  encode .dec565 = 0x00000001 ∧ ∀ s : State, ∃ v : Word,
    exec .dec565 s = .next { s with res0 := v, status := 0x02, gidx := 0, phase := .rest } ∧
    v.toNat = s.lat.opa.toNat / 2048 % 32 * 8 * 65536 + s.lat.opa.toNat / 32 % 64 * 4 * 256 +
      s.lat.opa.toNat % 32 * 8

/-- R106: `ENC565`, command word 0x00000002, completes from every state: `RES0` is the packed word of `OPA[23:0]`, the
top byte of `OPA` is ignored, `STATUS` is DONE, `GIDX` is 0, and nothing else changes. -/
def Obligations.Enc565WritesThePackedWord : Prop :=
  encode .enc565 = 0x00000002 ∧ ∀ s : State, ∃ v : Word,
    exec .enc565 s = .next { s with res0 := v, status := 0x02, gidx := 0, phase := .rest } ∧
    v.toNat = s.lat.opa.toNat / 65536 % 256 / 8 * 2048 + s.lat.opa.toNat / 256 % 256 / 4 * 32 +
      s.lat.opa.toNat % 256 / 8

/-- R107: `GREYAVG`, command word 0x00000003, completes from every state: `RES0` is the truncated mean of the three
channels of `OPA[23:0]`, `STATUS` is DONE, `GIDX` is 0, and nothing else changes. -/
def Obligations.GreyAvgWritesTheMean : Prop :=
  encode .greyAvg = 0x00000003 ∧ ∀ s : State, ∃ v : Word,
    exec .greyAvg s = .next { s with res0 := v, status := 0x02, gidx := 0, phase := .rest } ∧
    v.toNat = (s.lat.opa.toNat / 65536 % 256 + s.lat.opa.toNat / 256 % 256 + s.lat.opa.toNat % 256) / 3

/-- R108: `GREYLUM`, command word 0x00000004, completes from every state: `RES0` is the rounded weighted mean of the
three channels of `OPA[23:0]`, `STATUS` is DONE, `GIDX` is 0, and nothing else changes. The weights and the tie rule
are the defaults of R103 (log entry 7). -/
def Obligations.GreyLumWritesTheLuminosity : Prop :=
  encode .greyLum = 0x00000004 ∧ ∀ s : State, ∃ v : Word,
    exec .greyLum s = .next { s with res0 := v, status := 0x02, gidx := 0, phase := .rest } ∧
    v.toNat = (2126 * (s.lat.opa.toNat / 65536 % 256) + 7152 * (s.lat.opa.toNat / 256 % 256) +
      722 * (s.lat.opa.toNat % 256) + 5000) / 10000

/-- R195: `NOP`, command word 0, sets `STATUS` to DONE and `GIDX` to 0 and changes nothing else. -/
def Obligations.NopOnlyReportsDone : Prop :=
  encode .nop = 0x00000000 ∧ ∀ s : State, exec .nop s = .next { s with status := 0x02, gidx := 0, phase := .rest }

/-! ## The Layout Mapper -/

/-- R121: the group index `y outW + x` is a bijection between the valid coordinates and the numbers below `outW outH`,
with inverse `g` mod `outW`, `g` div `outW`. -/
def Obligations.GroupIndexIsABijection : Prop :=
  ∀ outW outH : Nat,
    (∀ x y, x < outW → y < outH →
      groupIndex outW x y = y * outW + x ∧ groupIndex outW x y < outW * outH ∧
        groupIndex outW x y % outW = x ∧ groupIndex outW x y / outW = y) ∧
    (∀ g, g < outW * outH → g % outW < outW ∧ g / outW < outH ∧ groupIndex outW (g % outW) (g / outW) = g)

/-- R55, R122, R123, R127: a slot starts at twice its channel's number in its group, inside the group, at an even
offset, and the inverse mapping gives the group and the channel back. -/
def Obligations.SlotOffsetsFillTheGroup : Prop :=
  ∀ (g : Nat) (c : Channel),
    byteOffset g c = 8 * g + 2 * (channelCode c).toNat ∧ byteOffset g c + 2 ≤ 8 * (g + 1) ∧
    byteOffset g c % 2 = 0 ∧ offsetGroup (byteOffset g c) = g ∧ offsetChannel (byteOffset g c) = c

/-- R126: with dimensions that are multiples of 4, a buffer inside the capacity, a coordinate inside the raster and
the slot inside the buffer, `BOFF` gives the offset and the group index, neither truncated, and changes nothing else
but `STATUS` and `GIDX`. -/
def Obligations.BoffGivesOffsetAndGroup : Prop :=
  ∀ (c : Channel) (s : State),
    s.lat.width.toNat % 4 = 0 → s.lat.height.toNat % 4 = 0 → s.lat.bufLen.toNat ≤ s.caps.pb.val →
    s.lat.xOut.toNat < s.lat.width.toNat / 4 → s.lat.yOut.toNat < s.lat.height.toNat / 4 →
    8 * (s.lat.yOut.toNat * (s.lat.width.toNat / 4) + s.lat.xOut.toNat) + 2 * (channelCode c).toNat + 2
      ≤ s.lat.bufLen.toNat →
    ∃ a g : Word,
      exec (.boff c) s = .next { s with res0 := a, res1 := g, status := 0x02, gidx := 0, phase := .rest } ∧
      g.toNat = s.lat.yOut.toNat * (s.lat.width.toNat / 4) + s.lat.xOut.toNat ∧
      a.toNat = 8 * g.toNat + 2 * (channelCode c).toNat

/-- R126, R204 (b), (c), (e), R207: `BOFF` ends in ParamError, changing nothing but `STATUS` and `GIDX`, when a
dimension is not a multiple of 4, the buffer length is above the capacity or the coordinate is outside the raster;
when none of these holds and the slot ends past the buffer length, it ends in LayoutError, in the same way. -/
def Obligations.BoffErrorsInOrder : Prop :=
  ∀ (c : Channel) (s : State),
    ((s.lat.width.toNat % 4 ≠ 0 ∨ s.lat.height.toNat % 4 ≠ 0 ∨ s.lat.bufLen.toNat > s.caps.pb.val ∨
        s.lat.xOut.toNat ≥ s.lat.width.toNat / 4 ∨ s.lat.yOut.toNat ≥ s.lat.height.toNat / 4) →
      exec (.boff c) s = .next (failedWith 0x43 s)) ∧
    (s.lat.width.toNat % 4 = 0 → s.lat.height.toNat % 4 = 0 → s.lat.bufLen.toNat ≤ s.caps.pb.val →
      s.lat.xOut.toNat < s.lat.width.toNat / 4 → s.lat.yOut.toNat < s.lat.height.toNat / 4 →
      8 * (s.lat.yOut.toNat * (s.lat.width.toNat / 4) + s.lat.xOut.toNat) + 2 * (channelCode c).toNat + 2
        > s.lat.bufLen.toNat →
      exec (.boff c) s = .next (failedWith 0x13 s))

/-! ## The Component Extractor -/

/-- R130, R132, R133, R134, R135: a legal `EXTRACT` on a ready raster completes; PX below `N` holds the primary
channel's colours with alpha 255, `v` or `255 - v` for MaskKind None, Alpha or InverseAlpha, where `v` is the mask
colour's averaged greyscale for the selector Averaged and its luminosity greyscale for Luminosity; the size, `GIDX`
and `STATUS` report it, and nothing else changes. The mask offset is the table's: a Dark request of a Light primary
reads slot 6, a Light request of a Dark primary slot 2, every other request slot 4; the Dark rows are taken unrepaired
(log entry 9). The weights and the tie rule of the luminosity greyscale are the defaults of R103 (log entry 7). A mask
kind asked of a mask primary is the matter of ExtractErrorsInOrder. -/
def Obligations.ExtractLeavesTheImage : Prop :=
  ∀ (c : Channel) (k : MaskKind) (q : MaskReq) (g : GreySel) (s : State),
    (k = .none ∨ c = .light ∨ c = .dark) → RasterReady s →
    ∃ t, exec (.extract c k q g) s = .next t ∧
      RasterResult (fun n =>
        packPixel
          (match k with
            | .none => 255
            | .alpha => (if g = .averaged then avgGrey else lumGrey) (groupColour s n
                (if c = .light ∧ q = .dark then 6 else if c = .dark ∧ q = .light then 2 else 4))
            | .inverseAlpha => 255 - (if g = .averaged then avgGrey else lumGrey) (groupColour s n
                (if c = .light ∧ q = .dark then 6 else if c = .dark ∧ q = .light then 2 else 4)))
          (groupColour s n (2 * (channelCode c).toNat))) s t

/-- R131, R135, R207: a mask asked of a mask primary is ConfigurationError whatever else is wrong; then the parameter
faults; then the short buffer. -/
def Obligations.ExtractErrorsInOrder : Prop :=
  ∀ (c : Channel) (k : MaskKind) (q : MaskReq) (g : GreySel) (s : State),
    (k ≠ .none → (c = .lightMask ∨ c = .darkMask) → exec (.extract c k q g) s = .next (failedWith 0x23 s)) ∧
    ((k = .none ∨ c = .light ∨ c = .dark) →
      (s.lat.width.toNat % 4 ≠ 0 ∨ s.lat.height.toNat % 4 ≠ 0 ∨ s.lat.bufLen.toNat > s.caps.pb.val ∨
        s.lat.width.toNat / 4 * (s.lat.height.toNat / 4) > s.caps.px.val) →
      exec (.extract c k q g) s = .next (failedWith 0x43 s)) ∧
    ((k = .none ∨ c = .light ∨ c = .dark) →
      s.lat.width.toNat % 4 = 0 → s.lat.height.toNat % 4 = 0 → s.lat.bufLen.toNat ≤ s.caps.pb.val →
      s.lat.width.toNat / 4 * (s.lat.height.toNat / 4) ≤ s.caps.px.val →
      s.lat.bufLen.toNat < 8 * (s.lat.width.toNat / 4 * (s.lat.height.toNat / 4)) →
      exec (.extract c k q g) s = .next (failedWith 0x13 s))

/-- R91: without a mask kind the request and the selector have no effect; a reserved request stays illegal. -/
def Obligations.MaskFieldsIdleWithoutMask : Prop :=
  (∀ (c : Channel) (q q' : MaskReq) (g g' : GreySel) (s : State),
    exec (.extract c .none q g) s = exec (.extract c .none q' g') s) ∧
  (∀ w : Word, w.toNat % 16 = 6 → w.toNat / 2048 % 4 = 3 → ∀ i, decode w ≠ .ok i)

/-! ## The Blend Engine -/

/-- R151, U3: `MIX(x, y, m)` is `(x (255 - m) + y m)` div 255, its numerator is at most 65025, it lies between `x` and
`y`, is `x` at weight 0, `y` at weight 255, and `x` when both are `x`. The exact quotient is the default R151 fixes
for a parameter (log entry 8). -/
def Obligations.MixIsExactAndBetween : Prop :=
  ∀ x y m : Byte,
    (mix x y m).toNat = (x.toNat * (255 - m.toNat) + y.toNat * m.toNat) / 255 ∧
    x.toNat * (255 - m.toNat) + y.toNat * m.toNat ≤ 65025 ∧
    min x.toNat y.toNat ≤ (mix x y m).toNat ∧ (mix x y m).toNat ≤ max x.toNat y.toNat ∧
    mix x y 0 = x ∧ mix x y 255 = y ∧ mix x x m = x

/-- R150, R152 to R155: on a ready raster `BLEND.LIGHT`, `BLEND.LMASK`, `BLEND.DARK` and `BLEND.DMASK` complete; PX
below `N` holds the opaque colours of slot 0, 4, 2 and 6, `OUTW`, `OUTH`, `GIDX` and `STATUS` report it, and nothing
else changes. -/
def Obligations.SingleChannelBlendsLeaveTheSlot : Prop :=
  ∀ s : State, RasterReady s →
    (∃ t, exec .blendLight s = .next t ∧ RasterResult (fun n => packPixel 255 (groupColour s n 0)) s t) ∧
    (∃ t, exec .blendLMask s = .next t ∧ RasterResult (fun n => packPixel 255 (groupColour s n 4)) s t) ∧
    (∃ t, exec .blendDark s = .next t ∧ RasterResult (fun n => packPixel 255 (groupColour s n 2)) s t) ∧
    (∃ t, exec .blendDMask s = .next t ∧ RasterResult (fun n => packPixel 255 (groupColour s n 6)) s t)

/-- R150, R156: on a ready raster `BLEND.MCOMP` completes; PX below `N` holds Dark over Light, weighted by the
averaged greyscale of the DarkMask slot, opaque; the size, `GIDX` and `STATUS` report it, and nothing else changes.
The alpha byte 255 is the spec's statement from general knowledge G1, and the slot its decision D17 (log entry 10);
the exact `MIX` is the default of R151 (log entry 8). -/
def Obligations.MaskedCompositeLeavesDarkOverLight : Prop :=
  ∀ s : State, RasterReady s →
    ∃ t, exec .blendMComp s = .next t ∧
      RasterResult (fun n =>
        packPixel 255
          ⟨mix (groupColour s n 0).r (groupColour s n 2).r (avgGrey (groupColour s n 6)),
           mix (groupColour s n 0).g (groupColour s n 2).g (avgGrey (groupColour s n 6)),
           mix (groupColour s n 0).b (groupColour s n 2).b (avgGrey (groupColour s n 6))⟩) s t

/-- R150, R157: on a ready raster `BLEND.CAVG` completes; PX below `N` holds the truncated average of Light and Dark,
opaque, and no sum is narrowed; the size, `GIDX` and `STATUS` report it, and nothing else changes. -/
def Obligations.ChannelAverageLeavesTheMean : Prop :=
  (∀ s : State, RasterReady s →
    ∃ t, exec .blendCAvg s = .next t ∧
      RasterResult (fun n =>
        packPixel 255
          ⟨halfSum (groupColour s n 0).r (groupColour s n 2).r,
           halfSum (groupColour s n 0).g (groupColour s n 2).g,
           halfSum (groupColour s n 0).b (groupColour s n 2).b⟩) s t) ∧
  (∀ x y : Byte, (halfSum x y).toNat = (x.toNat + y.toNat) / 2)

/-- R150, R158, R160: on a ready raster `BLEND.DMAB` completes; PX below `N` holds Light and Dark mixed by the bitwise
OR of the two masks' luminosity greyscales, opaque; the size, `GIDX` and `STATUS` report it, and nothing else changes.
The luminosity function and `MIX` are the defaults of R103 and R151 (log entries 7 and 8). -/
def Obligations.DualMaskBlendLeavesTheOrWeightedMix : Prop :=
  ∀ s : State, RasterReady s →
    ∃ t, exec .blendDmab s = .next t ∧
      RasterResult (fun n =>
        packPixel 255
          ⟨mix (groupColour s n 0).r (groupColour s n 2).r
              (lumGrey (groupColour s n 4) ||| lumGrey (groupColour s n 6)),
           mix (groupColour s n 0).g (groupColour s n 2).g
              (lumGrey (groupColour s n 4) ||| lumGrey (groupColour s n 6)),
           mix (groupColour s n 0).b (groupColour s n 2).b
              (lumGrey (groupColour s n 4) ||| lumGrey (groupColour s n 6))⟩) s t

/-- R150, R204 (b), (c), (d), R207: each of the seven strategies ends in ParamError, changing nothing but `STATUS` and
`GIDX`, when a dimension is not a multiple of 4 or a capacity is exceeded; when none of these holds and the buffer is
shorter than `8N`, it ends in LayoutError. The bound is the same for all of them. -/
def Obligations.BlendErrorsInOrder : Prop :=
  ∀ i ∈ blends, ∀ s : State,
    ((s.lat.width.toNat % 4 ≠ 0 ∨ s.lat.height.toNat % 4 ≠ 0 ∨ s.lat.bufLen.toNat > s.caps.pb.val ∨
        s.lat.width.toNat / 4 * (s.lat.height.toNat / 4) > s.caps.px.val) →
      exec i s = .next (failedWith 0x43 s)) ∧
    (s.lat.width.toNat % 4 = 0 → s.lat.height.toNat % 4 = 0 → s.lat.bufLen.toNat ≤ s.caps.pb.val →
      s.lat.width.toNat / 4 * (s.lat.height.toNat / 4) ≤ s.caps.px.val →
      s.lat.bufLen.toNat < 8 * (s.lat.width.toNat / 4 * (s.lat.height.toNat / 4)) →
      exec i s = .next (failedWith 0x13 s))

/-- R162: the single-channel strategies end in exactly the state of `EXTRACT` without a mask; MaskedComposite is `MIX`
of the two unmasked extractions' colours, weighted by the averaged greyscale at offset 6, which no row of the mask
table gives a Dark primary. The exact `MIX` is the default of R151 (log entry 8), the unrepaired Dark rows are log
entry 9, the slot 6 and the alpha 255 of MaskedComposite are log entry 10. -/
def Obligations.SingleChannelBlendsAreExtractions : Prop :=
  (∀ (s : State) (q : MaskReq) (g : GreySel),
    exec .blendLight s = exec (.extract .light .none q g) s ∧
    exec .blendDark s = exec (.extract .dark .none q g) s ∧
    exec .blendLMask s = exec (.extract .lightMask .none q g) s ∧
    exec .blendDMask s = exec (.extract .darkMask .none q g) s) ∧
  (∀ (pb : List Host.Cell) (n : Nat) (q : MaskReq) (g : GreySel),
    maskedPixel pb n =
      packPixel 255 (mixRgb (wordRgb (extractPixel .light .none q g pb n)) (wordRgb (extractPixel .dark .none q g pb n))
        (alphaOf .alpha (greyOf .averaged (slotRgb pb n 6))))) ∧
  (∀ q : MaskReq, maskOffset .dark q ≠ some 6)

/-- R159: two states that differ in LightMask bytes only get the same image from `BLEND.MCOMP`. -/
def Obligations.MaskedCompositeIgnoresLightMask : Prop :=
  ∀ (s : State) (pb' : List Host.Cell),
    (∀ a, a % 8 ≠ 4 → a % 8 ≠ 5 → pbByte pb' a = pbByte s.pb a) →
    ∃ t u, exec .blendMComp s = .next t ∧ exec .blendMComp { s with pb := pb' } = .next u ∧
      u = { t with pb := pb', px := u.px } ∧ ∀ n, pxWord u.px n = pxWord t.px n

/-- R57: a reading operation depends on PB below `8N` only; a longer buffer's tail is ignored. -/
def Obligations.RasterReadsOnlyItsGroups : Prop :=
  ∀ (i : Instr) (s : State) (pb' : List Host.Cell),
    (i ∈ blends ∨ ∃ c k q g, i = .extract c k q g) →
    (∀ a, a < 8 * (s.lat.width.toNat / 4 * (s.lat.height.toNat / 4)) → pbByte pb' a = pbByte s.pb a) →
    ∃ t u, exec i s = .next t ∧ exec i { s with pb := pb' } = .next u ∧ u = { t with pb := pb' }

/-! ## The Reconstruction Encoder -/

/-- R180, R181, R183: `ENCODE` with ZeroFill leaves the packed words in the Light slots, low byte first, and 0 in
every other byte below `DESTLEN`; bytes at `DESTLEN` and above, and PX, keep their values. -/
def Obligations.EncodeZeroFillLeavesTheImage : Prop :=
  ∀ s : State, EncodeReady s →
    ∃ t, exec (.encode .zeroFill) s = .next t ∧
      t = { s with pb := t.pb, gidx := t.gidx, status := 0x02, phase := .rest } ∧
      t.gidx.toNat = s.lat.imgW.toNat * s.lat.imgH.toNat ∧
      ∀ a, pbByte t.pb a =
        if a < 8 * (s.lat.imgW.toNat * s.lat.imgH.toNat) ∧ a % 8 = 0 then
          (encode565 (wordRgb (pxWord s.px (a / 8)))).extractLsb' 0 8
        else if a < 8 * (s.lat.imgW.toNat * s.lat.imgH.toNat) ∧ a % 8 = 1 then
          (encode565 (wordRgb (pxWord s.px (a / 8)))).extractLsb' 8 8
        else if a < s.lat.destLen.toNat then 0
        else pbByte s.pb a

/-- R180, R181, R183: `ENCODE` with Patch overwrites the two bytes of each Light slot and no other byte. -/
def Obligations.EncodePatchWritesLightSlotsOnly : Prop :=
  ∀ s : State, EncodeReady s →
    ∃ t, exec (.encode .patch) s = .next t ∧
      t = { s with pb := t.pb, gidx := t.gidx, status := 0x02, phase := .rest } ∧
      t.gidx.toNat = s.lat.imgW.toNat * s.lat.imgH.toNat ∧
      ∀ a, pbByte t.pb a =
        if a < 8 * (s.lat.imgW.toNat * s.lat.imgH.toNat) ∧ a % 8 = 0 then
          (encode565 (wordRgb (pxWord s.px (a / 8)))).extractLsb' 0 8
        else if a < 8 * (s.lat.imgW.toNat * s.lat.imgH.toNat) ∧ a % 8 = 1 then
          (encode565 (wordRgb (pxWord s.px (a / 8)))).extractLsb' 8 8
        else pbByte s.pb a

/-- R180, R182, R204 (f), R207: `ENCODE` ends in ParamError, changing nothing but `STATUS` and `GIDX`, when the image
or `DESTLEN` exceeds its capacity; when neither does and `8P` exceeds `DESTLEN`, it ends in SizeError. Both
comparisons are on exact naturals. -/
def Obligations.EncodeErrorsInOrder : Prop :=
  ∀ (f : FillMode) (s : State),
    ((s.lat.imgW.toNat * s.lat.imgH.toNat > s.caps.px.val ∨ s.lat.destLen.toNat > s.caps.pb.val) →
      exec (.encode f) s = .next (failedWith 0x43 s)) ∧
    (s.lat.imgW.toNat * s.lat.imgH.toNat ≤ s.caps.px.val → s.lat.destLen.toNat ≤ s.caps.pb.val →
      8 * (s.lat.imgW.toNat * s.lat.imgH.toNat) > s.lat.destLen.toNat →
      exec (.encode f) s = .next (failedWith 0x33 s))

/-- R186, R185, R180: what `ENCODE` wrote, `EXTRACT` reads back. With dimensions four times the image's and a buffer
length between `8P` and `DESTLEN` (R185), the Light channel is the image with the low 3, 2 and 3 bits cleared, each
channel lower by at most 7, 3 and 7; the other three channels are opaque black after a ZeroFill and what PB held
before after a Patch. -/
def Obligations.EncodedImageReadsBack : Prop :=
  ∀ (f : FillMode) (s : State), EncodeReady s →
    ∃ t, exec (.encode f) s = .next t ∧
      ∀ (u : State) (q : MaskReq) (g : GreySel), u.pb = t.pb → u.caps = s.caps →
        u.lat.width.toNat = 4 * s.lat.imgW.toNat → u.lat.height.toNat = 4 * s.lat.imgH.toNat →
        8 * (s.lat.imgW.toNat * s.lat.imgH.toNat) ≤ u.lat.bufLen.toNat →
        u.lat.bufLen.toNat ≤ s.lat.destLen.toNat →
        (∃ v, exec (.extract .light .none q g) u = .next v ∧ v.status = 0x02 ∧
          ∀ n < s.lat.imgW.toNat * s.lat.imgH.toNat, ∃ c d : Rgb,
            c = wordRgb (pxWord s.px n) ∧ d = ⟨c.r &&& 0xF8, c.g &&& 0xFC, c.b &&& 0xF8⟩ ∧
            pxWord v.px n = packPixel 255 d ∧
            d.r.toNat ≤ c.r.toNat ∧ c.r.toNat ≤ d.r.toNat + 7 ∧ d.g.toNat ≤ c.g.toNat ∧
            c.g.toNat ≤ d.g.toNat + 3 ∧ d.b.toNat ≤ c.b.toNat ∧ c.b.toNat ≤ d.b.toNat + 7) ∧
        (∀ c : Channel, c ≠ .light →
          ∃ v, exec (.extract c .none q g) u = .next v ∧ v.status = 0x02 ∧
            ∀ n < s.lat.imgW.toNat * s.lat.imgH.toNat,
              pxWord v.px n =
                match f with
                | .zeroFill => 0xFF000000
                | .patch => packPixel 255 (groupColour s n (2 * (channelCode c).toNat)))

/-! ## All operations -/

/-- R206, R211: every operation answers a next state, which is either the state before with one of the four errors in
`STATUS`, `GIDX` 0 and nothing else changed, or a state that reports DONE without an error. -/
def Obligations.EveryCommandIsAllOrNothing : Prop :=
  ∀ (i : Instr) (s : State), ∃ t, exec i s = .next t ∧ t.phase = .rest ∧
    ((t.status = 0x02) ∨
      ((t.status = 0x13 ∨ t.status = 0x23 ∨ t.status = 0x33 ∨ t.status = 0x43) ∧ t = failedWith t.status s))

/-- R21, R33, R185: no operation writes `CMD`, a parameter register or the latch; the capacities, the host's actions
and replies are not the block's. The fields host, reply and abandoned are the model's own (log entries 1, 4, 5). -/
def Obligations.ParametersAreNeverWritten : Prop :=
  ∀ (i : Instr) (s t : State), exec i s = .next t →
    t.cmd = s.cmd ∧ t.width = s.width ∧ t.height = s.height ∧ t.bufLen = s.bufLen ∧ t.imgW = s.imgW ∧
    t.imgH = s.imgH ∧ t.destLen = s.destLen ∧ t.opa = s.opa ∧ t.xOut = s.xOut ∧ t.yOut = s.yOut ∧
    t.lat = s.lat ∧ t.caps = s.caps ∧ t.host = s.host ∧ t.reply = s.reply ∧ t.abandoned = s.abandoned

/-- R30, R31, R35, R36: which operations leave which results alone. Only the scalar operations and `BOFF` write
`RES0`, only `BOFF` writes `RES1`, only `EXTRACT` and `BLEND.*` write `OUTW`, `OUTH` and PX, only `ENCODE` writes PB. -/
def Obligations.ResultsHaveTheirWriters : Prop :=
  ∀ (i : Instr) (s t : State), exec i s = .next t →
    (i ∉ [.dec565, .enc565, .greyAvg, .greyLum] → (∀ c, i ≠ .boff c) → t.res0 = s.res0) ∧
    ((∀ c, i ≠ .boff c) → t.res1 = s.res1) ∧
    (i ∉ blends → (∀ c k q g, i ≠ .extract c k q g) → t.outW = s.outW ∧ t.outH = s.outH ∧ t.px = s.px) ∧
    ((∀ f, i ≠ .encode f) → t.pb = s.pb)

/-- R205: which operation can end in which error: `NOP` and the scalar operations always end in DONE; `BOFF` and
`BLEND.*` in DONE, ParamError or LayoutError; `EXTRACT` in these or ConfigurationError; `ENCODE` in DONE, ParamError
or SizeError. -/
def Obligations.WhichOperationRaisesWhat : Prop :=
  ∀ (i : Instr) (s t : State), exec i s = .next t →
    match i with
    | .nop => t.status = 0x02
    | .dec565 => t.status = 0x02
    | .enc565 => t.status = 0x02
    | .greyAvg => t.status = 0x02
    | .greyLum => t.status = 0x02
    | .boff _ => t.status = 0x02 ∨ t.status = 0x43 ∨ t.status = 0x13
    | .extract _ _ _ _ => t.status = 0x02 ∨ t.status = 0x23 ∨ t.status = 0x43 ∨ t.status = 0x13
    | .encode _ => t.status = 0x02 ∨ t.status = 0x43 ∨ t.status = 0x33
    | _ => t.status = 0x02 ∨ t.status = 0x43 ∨ t.status = 0x13

/-- R39: the outcome of a command is a function of the latch and the two memories. Two states that agree in these (and
are the same instance) end with the same `STATUS`, the same `GIDX` and the same memories, and each result register
either gets the same value in both or keeps its own in both. -/
def Obligations.OutcomeDependsOnLatchAndMemories : Prop :=
  ∀ (i : Instr) (s t : State), s.lat = t.lat → s.caps = t.caps →
    (∀ a, pbByte s.pb a = pbByte t.pb a) → (∀ n, pxWord s.px n = pxWord t.px n) →
    ∃ s' t', exec i s = .next s' ∧ exec i t = .next t' ∧ s'.status = t'.status ∧ s'.gidx = t'.gidx ∧
      (∀ a, pbByte s'.pb a = pbByte t'.pb a) ∧ (∀ n, pxWord s'.px n = pxWord t'.px n) ∧
      (s'.res0 = t'.res0 ∨ s'.res0 = s.res0 ∧ t'.res0 = t.res0) ∧
      (s'.res1 = t'.res1 ∨ s'.res1 = s.res1 ∧ t'.res1 = t.res1) ∧
      (s'.outW = t'.outW ∧ s'.outH = t'.outH ∨
        s'.outW = s.outW ∧ t'.outW = t.outW ∧ s'.outH = s.outH ∧ t'.outH = t.outH)

/-! ## The step -/

/-- R8, R65, R240: when the host's next action is a legal command word and no command runs, the step is the operation
itself, from the state START leaves; and a word placed by `withFetchWord` is such an action. That a whole command is
one step, and that withFetchWord queues it, is the model's choice (log entry 1). -/
def Obligations.StepRunsTheDecodedOperation : Prop :=
  (∀ (s : State) (w : Word) (i : Instr) (rest : List HostAction),
    s.busy = false → s.host = .command w :: rest → decode w = .ok i →
    step s = exec i (started w { s with host := rest })) ∧
  (∀ (s : State) (nbits w : Nat) (i : Instr), s.busy = false → decodeTableWord nbits w = some i →
    step (s.withFetchWord nbits w) = exec i (started (BitVec.ofNat 32 (w % 2 ^ nbits)) s))

/-- R240: a host write to `CMD` while no command runs is START and nothing else. -/
def Obligations.CmdWriteStartsTheCommand : Prop :=
  ∀ (s : State) (w : Word) (rest : List HostAction),
    s.busy = false → s.host = .writeReg 0 4 w :: rest → step s = .next (started w { s with host := rest })

/-- R42, R247: while a command runs every register write and every command is dropped and every register read is
answered, and nothing else changes. That a command is one host action is the model's choice (log entry 1), and so are
the field reply that holds the answer (log entry 5) and that a read of `GIDX` then answers the counter as it stands, a
value R32 leaves open (log entry 11). -/
def Obligations.BusyBlockDropsWritesAndAnswersReads : Prop :=
  ∀ (s : State) (rest : List HostAction) (offset : Nat) (v : Word), s.busy = true → offset % 4 = 0 →
    (s.host = .writeReg offset 4 v :: rest → step s = .next { s with host := rest }) ∧
    (s.host = .command v :: rest → step s = .next { s with host := rest }) ∧
    (s.host = .readReg offset 4 :: rest →
      step s = .next { s with host := rest, reply := some (readRegister s offset) })

/-- R21, R41: the register map as a host reads it, 0 at 0x40 and above; a read changes nothing but the reply. The
field reply is the model's own (log entry 5). At 0x3C while a command runs the answer is the counter as it stands, the
model's choice of a value R32 and U15 leave open (log entry 11). -/
def Obligations.RegisterReadsFollowTheMap : Prop :=
  ∀ (s : State) (rest : List HostAction) (offset : Nat), offset % 4 = 0 → s.host = .readReg offset 4 :: rest →
    ∃ v, step s = .next { s with host := rest, reply := some v } ∧ (offset ≥ 0x40 → v = 0) ∧
      ∀ p ∈ [(0x00, s.cmd), (0x04, s.status), (0x08, s.width), (0x0C, s.height), (0x10, s.bufLen), (0x14, s.imgW),
        (0x18, s.imgH), (0x1C, s.destLen), (0x20, s.opa), (0x24, s.xOut), (0x28, s.yOut), (0x2C, s.res0),
        (0x30, s.res1), (0x34, s.outW), (0x38, s.outH), (0x3C, s.gidx)], offset = p.1 → v = p.2

/-- R21, R24, R41: a host write while no command runs, besides one to `CMD`, changes the one parameter register it
names; a read-only register, and an offset of 0x40 and above, ignores it. -/
def Obligations.RegisterWritesReachParametersOnly : Prop :=
  ∀ (s : State) (rest : List HostAction) (offset : Nat) (v : Word),
    s.busy = false → offset % 4 = 0 → offset ≠ 0 → s.host = .writeReg offset 4 v :: rest →
    ∃ t, step s = .next t ∧
      (∀ o, readRegister t o =
        if o = offset ∧ o ∈ [0x08, 0x0C, 0x10, 0x14, 0x18, 0x1C, 0x20, 0x24, 0x28] then v else readRegister s o) ∧
      t = { s with
        host := rest, width := t.width, height := t.height, bufLen := t.bufLen, imgW := t.imgW, imgH := t.imgH,
        destLen := t.destLen, opa := t.opa, xOut := t.xOut, yOut := t.yOut }

/-- R58: the PB port while no command runs. A write changes the one byte, a read answers it and changes nothing, and
an index at or above the capacity stops the model, by a fault of its own name (log entry 6). That the stop is a fault
is the model's choice (log entry 6); the spec says the access has no meaning. -/
def Obligations.PbPortReadsAndWritesOneByte : Prop :=
  ∀ (s : State) (rest : List HostAction) (a : Nat) (v : Byte), s.busy = false →
    (a < s.caps.pb.val → s.host = .writePB a v :: rest →
      ∃ t, step s = .next t ∧ t = { s with host := rest, pb := t.pb } ∧
        ∀ b, pbByte t.pb b = if b = a then v else pbByte s.pb b) ∧
    (a < s.caps.pb.val → s.host = .readPB a :: rest →
      step s = .next { s with host := rest, reply := some ((pbByte s.pb a).setWidth 32) }) ∧
    (a ≥ s.caps.pb.val → (s.host = .writePB a v :: rest ∨ s.host = .readPB a :: rest) →
      step s = .fault (.pbIndexBeyondCapacity a))

/-- R59: the PX port while no command runs, as the PB port but of whole words. That the stop is a fault is the model's
choice (log entry 6); the spec says the access has no meaning. -/
def Obligations.PxPortReadsAndWritesOneWord : Prop :=
  ∀ (s : State) (rest : List HostAction) (i : Nat) (v : Word), s.busy = false →
    (i < s.caps.px.val → s.host = .writePX i v :: rest →
      ∃ t, step s = .next t ∧ t = { s with host := rest, px := t.px } ∧
        ∀ n, pxWord t.px n = if n = i then v else pxWord s.px n) ∧
    (i < s.caps.px.val → s.host = .readPX i :: rest →
      step s = .next { s with host := rest, reply := some (pxWord s.px i) }) ∧
    (i ≥ s.caps.px.val → (s.host = .writePX i v :: rest ∨ s.host = .readPX i :: rest) →
      step s = .fault (.pxIndexBeyondCapacity i))

/-- R60, R245, U9, U12: the two kinds of host access the spec tells a model to refuse: a register access of another
width or alignment, and a memory access while a command runs. The refusals are the treatment of U9 and U12 (log entry
13). -/
def Obligations.ForbiddenHostAccessesAreRefused : Prop :=
  ∀ (s : State) (rest : List HostAction) (offset bytes a : Nat) (b : Byte) (v : Word),
    ((bytes ≠ 4 ∨ offset % 4 ≠ 0) →
      (s.host = .readReg offset bytes :: rest ∨ s.host = .writeReg offset bytes v :: rest) →
      step s = .refused (.registerAccessShape offset bytes)) ∧
    (s.busy = true →
      (s.host = .readPB a :: rest ∨ s.host = .writePB a b :: rest ∨ s.host = .readPX a :: rest ∨
        s.host = .writePX a v :: rest) →
      step s = .refused .memoryPortWhileBusy)

/-! ## Reset -/

/-- R40: after reset every register reads 0, the block rests with a zero latch, and no cell of PB or PX has been
written. That a cell nothing has written has no entry is the model's form (log entry 3). -/
def Obligations.ResetLeavesZeroRegisters : Prop :=
  (∀ offset, readRegister State.reset offset = 0) ∧ State.reset.phase = .rest ∧ State.reset.lat = Latch.zero ∧
  (∀ a, Memory.lookup State.reset.pb a = none) ∧ (∀ n, Memory.lookup State.reset.px n = none)

/-- R230: the reset event makes every register 0, lets the block rest and clears the latch. At rest it changes neither
memory; while a command runs it can touch only that command's output range: PX below `N` for `EXTRACT` and `BLEND.*`,
PB below `DESTLEN` for `ENCODE`, and nothing for any other operation, for an illegal word, or for a command whose
checks fail. What the range then holds, and that a command whose checks fail has none, is the model's choice (log
entry 4); the reply it keeps is the model's own field (log entry 5). -/
def Obligations.ResetEventKeepsTheMemories : Prop :=
  ∀ (s : State) (rest : List HostAction), s.host = .reset :: rest →
    ∃ t, step s = .next t ∧ (∀ offset, readRegister t offset = 0) ∧ t.phase = .rest ∧ t.lat = Latch.zero ∧
      t.caps = s.caps ∧ t.host = rest ∧ t.reply = s.reply ∧
      (s.busy = false → t.pb = s.pb ∧ t.px = s.px) ∧
      (∀ i, decode s.lat.cmd = .ok i → operationCheck i s ≠ none → t.pb = s.pb ∧ t.px = s.px) ∧
      ((∀ f, decode s.lat.cmd ≠ .ok (.encode f)) → t.pb = s.pb) ∧
      ((∀ i, decode s.lat.cmd = .ok i → i ∉ blends ∧ ∀ c k q g, i ≠ .extract c k q g) → t.px = s.px) ∧
      (∀ n, s.lat.width.toNat / 4 * (s.lat.height.toNat / 4) ≤ n → pxWord t.px n = pxWord s.px n) ∧
      (∀ a, s.lat.destLen.toNat ≤ a → pbByte t.pb a = pbByte s.pb a)

/-! ## The micro-steps -/

/-- R242: in phase FILL, with the host silent, the block's step is the micro-step FILL: every byte of PB below
`DESTLEN` is 0, the phase is RUN, and nothing else changes. -/
def Obligations.FillZeroesTheDestination : Prop :=
  ∀ s : State, s.host = [] → s.phase = .fill →
    ∃ t, step s = .next t ∧ t = { s with pb := t.pb, phase := .run } ∧
      ∀ a, pbByte t.pb a = if a < s.lat.destLen.toNat then 0 else pbByte s.pb a

/-- R243: the micro-step PIXEL in a well-kept state: group `GIDX` is done, and `GIDX` goes up by one. For `EXTRACT`
and `BLEND.*` one word of PX is written, for `ENCODE` the two bytes of one Light slot. -/
def Obligations.PixelStepDoesOneGroup : Prop :=
  ∀ (s : State) (i : Instr), s.Inv → s.host = [] → s.phase = .run → decode s.lat.cmd = .ok i →
    s.gidx.toNat < workCount s.lat (operationWork i s) →
    ∃ t, step s = .next t ∧ t.gidx.toNat = s.gidx.toNat + 1 ∧
      t = { s with pb := t.pb, px := t.px, gidx := t.gidx } ∧
      (∀ pixel, operationWork i s = .raster pixel →
        t.pb = s.pb ∧
        ∀ n, pxWord t.px n = if n = s.gidx.toNat then pixel s.pb n else pxWord s.px n) ∧
      (∀ f, i = .encode f →
        t.px = s.px ∧
        ∀ a, pbByte t.pb a =
          if a = 8 * s.gidx.toNat then (encode565 (wordRgb (pxWord s.px s.gidx.toNat))).extractLsb' 0 8
          else if a = 8 * s.gidx.toNat + 1 then (encode565 (wordRgb (pxWord s.px s.gidx.toNat))).extractLsb' 8 8
          else pbByte s.pb a)

/-- R244: the micro-step FINISH in a well-kept state: `OUTW` and `OUTH` are written by a reading operation only, and
the block reports DONE. -/
def Obligations.FinishReportsTheSize : Prop :=
  ∀ (s : State) (i : Instr), s.Inv → s.host = [] → s.phase = .run → decode s.lat.cmd = .ok i →
    s.gidx.toNat = workCount s.lat (operationWork i s) →
    ∃ t, step s = .next t ∧
      t = { s with outW := t.outW, outH := t.outH, status := 0x02, phase := .rest } ∧
      ((∃ f, i = .encode f) → t.outW = s.outW ∧ t.outH = s.outH) ∧
      ((∀ f, i ≠ .encode f) →
        t.outW.toNat = s.lat.width.toNat / 4 ∧ t.outH.toNat = s.lat.height.toNat / 4)

/-- R241: CHECK reads the latch and never PB or PX: with other memories it comes to the same registers, phase and
latch, and writes neither memory. -/
def Obligations.CheckNeverTouchesTheMemories : Prop :=
  ∀ (s : State) (pb' : List Host.Cell) (px' : List (Nat × Word)), s.host = [] → s.phase = .check →
    ∃ t, step s = .next t ∧ t.pb = s.pb ∧ t.px = s.px ∧
      step { s with pb := pb', px := px' } = .next { t with pb := pb', px := px' }

/-- R32, U15: while a command runs `GIDX` never falls and never passes the command's count. That a read while busy
shows the counter itself is the model's choice (log entry 11). -/
def Obligations.GroupCounterClimbsToTheCount : Prop :=
  ∀ (s t : State), s.Inv → s.busy = true → step s = .next t → t.busy = true →
    s.gidx.toNat ≤ t.gidx.toNat ∧ t.lat = s.lat ∧
      ∀ i, decode t.lat.cmd = .ok i → t.phase = .run →
        t.gidx.toNat ≤ workCount t.lat (operationWork i t)

/-- R244, R249: from a `CMD` write the micro-steps reach exactly the atomic result of the same command, within the
count and four steps. The command taken as one step, with which they are compared, is the model's form of R65 (log
entry 1). -/
def Obligations.MicroStepsReachTheAtomicResult : Prop :=
  ∀ (s : State) (w : Word), s.busy = false →
    ∃ k, k ≤ (match decode w with
        | .ok i => workCount (latchFor w s) (operationWork i s)
        | .error _ => 0) + 4 ∧
      Host.Core.run Sys2Proof.core k ({ s with host := [.writeReg 0 4 w] } : State) =
        step { s with host := [.command w] }

/-- R92, R196, R249: the polling loop ends. After a `CMD` write the host's `wait` comes to an end in the atomic result
of the command, with `STATUS` as its last reply. The bound of the count and six steps is the model's: a turn of `wait`
takes one step and lets the block make one micro-step (log entry 5); the command taken as one step is log entry 1. -/
def Obligations.WaitEndsInTheAtomicResult : Prop :=
  ∀ (s : State) (w : Word), s.busy = false →
    ∃ k t, k ≤ (match decode w with
        | .ok i => workCount (latchFor w s) (operationWork i s)
        | .error _ => 0) + 6 ∧
      step { s with host := [.command w] } = .next t ∧ t.busy = false ∧
      Host.Core.run Sys2Proof.core k ({ s with host := [.writeReg 0 4 w, .wait] } : State) =
        .next { t with reply := some t.status }

/-! ## Invariants -/

/-- R23, R32, R33, R35, R36: the invariant holds at reset. -/
def Obligations.ResetIsWellKept : Prop := State.reset.Inv

/-- R23, R32, R33, R35, R36, R57, R241: from every well-kept state, every step that gives a next state gives a well-kept
one: the memories keep their form inside their capacities, `STATUS` stays legal, BUSY goes with a phase other than REST,
and a running command has passed its checks and not overrun its count. -/
def Obligations.EveryStepKeepsTheInvariant : Prop :=
  ∀ s t : State, s.Inv → step s = .next t → t.Inv

/-- R23: in every step from a well-kept state `STATUS` stays, or goes to BUSY from not busy, or from BUSY to DONE or
ERROR, or to 0 at a reset; and `ERR` is not 0 exactly when `STATE` is ERROR. A command taken whole goes through BUSY
inside its one step (log entry 1). -/
def Obligations.StatusMovesAsTheSpecSays : Prop :=
  ∀ s t : State, s.Inv → step s = .next t →
    (statusErr t.status ≠ 0 ↔ statusState t.status = .error) ∧
    (t.status = s.status ∨
      (s.busy = false ∧ t.busy = true) ∨
      (s.busy = true ∧ (statusState t.status = .done ∨ statusState t.status = .error)) ∨
      (s.busy = false ∧ (∃ w rest, s.host = .command w :: rest) ∧
        (statusState t.status = .done ∨ statusState t.status = .error)) ∨
      ((∃ rest, s.host = .reset :: rest) ∧ t.status = 0))
end

