-- ==== Sys2Proof/Laws/Memory.lean ====
section
/-! SUPPORT. What each memory operation does: the value read after it at every index, and the canonical form it
keeps. -/

namespace Sys2Proof.Machine

variable {β : Type}

/-- A store is seen at its own index and at no other. -/
theorem Memory.lookup_store (m : List (Nat × β)) (k a : Nat) (v : β) :
    Memory.lookup (Memory.store m k v) a = if a = k then some v else Memory.lookup m a := by
  induction m with
  | nil => rfl
  | cons p m ih =>
    obtain ⟨b, x⟩ := p
    simp only [Memory.store]
    split_ifs <;> simp only [Memory.lookup] <;> split_ifs <;> first | rfl | omega | simp_all

/-- The indices of a store are the old ones and the stored one. -/
theorem Memory.mem_store {m : List (Nat × β)} {k : Nat} {v : β} {p : Nat × β} (h : p ∈ Memory.store m k v) :
    p = (k, v) ∨ p ∈ m := by
  induction m with
  | nil => simpa [Memory.store] using h
  | cons q m ih =>
    obtain ⟨b, x⟩ := q
    simp only [Memory.store] at h
    split_ifs at h
    · simpa using h
    · rcases List.mem_cons.1 h with h | h
      · exact .inl h
      · exact .inr (List.mem_cons_of_mem _ h)
    · rcases List.mem_cons.1 h with h | h
      · exact .inr (h ▸ List.mem_cons_self)
      · exact (ih h).imp_right (List.mem_cons_of_mem _)

/-- A store keeps the rising order. -/
theorem Memory.rising_store {m : List (Nat × β)} (h : m.Pairwise (fun p q => p.1 < q.1)) (k : Nat) (v : β) :
    (Memory.store m k v).Pairwise (fun p q => p.1 < q.1) := by
  induction m with
  | nil => simp [Memory.store]
  | cons q m ih =>
    obtain ⟨b, x⟩ := q
    obtain ⟨hb, hm⟩ := List.pairwise_cons.1 h
    simp only [Memory.store]
    split_ifs with h1 h2
    · refine List.pairwise_cons.2 ⟨fun p hp => ?_, h⟩
      rcases List.mem_cons.1 hp with rfl | hp
      · exact h1
      · exact Nat.lt_trans h1 (hb p hp)
    · subst h2
      exact List.pairwise_cons.2 ⟨hb, hm⟩
    · refine List.pairwise_cons.2 ⟨fun p hp => ?_, ih hm⟩
      rcases Memory.mem_store hp with rfl | hp
      · simp only; omega
      · exact hb p hp

/-- A store inside the capacity keeps the canonical form. -/
theorem Memory.wf_store {cap : Nat} {m : List (Nat × β)} (h : Memory.wf cap m) {k : Nat} (hk : k < cap) (v : β) :
    Memory.wf cap (Memory.store m k v) := by
  refine ⟨Memory.rising_store h.1 k v, fun p hp => ?_⟩
  rcases Memory.mem_store hp with rfl | hp
  · exact hk
  · exact h.2 p hp

/-- Nothing written is in the canonical form. -/
theorem Memory.wf_nil (cap : Nat) : Memory.wf cap ([] : List (Nat × β)) := by simp [Memory.wf]

/-- A run of stores from index 0 is seen at the indices below its length. -/
theorem Memory.lookup_storeRange (f : Nat → β) (n : Nat) (m : List (Nat × β)) (a : Nat) :
    Memory.lookup (Memory.storeRange f n m) a = if a < n then some (f a) else Memory.lookup m a := by
  induction n with
  | zero => rfl
  | succ n ih =>
    simp only [Memory.storeRange, Memory.lookup_store, ih]
    split_ifs <;> first | rfl | omega | simp_all

/-- A run of stores inside the capacity keeps the canonical form. -/
theorem Memory.wf_storeRange {cap : Nat} {m : List (Nat × β)} (h : Memory.wf cap m) (f : Nat → β) {n : Nat}
    (hn : n ≤ cap) : Memory.wf cap (Memory.storeRange f n m) := by
  induction n with
  | zero => exact h
  | succ n ih => exact Memory.wf_store (ih (by omega)) (by omega) _

/-- A run of stores depends on its function below its length only. -/
theorem Memory.storeRange_congr {f g : Nat → β} {n : Nat} (h : ∀ j < n, f j = g j) (m : List (Nat × β)) :
    Memory.storeRange f n m = Memory.storeRange g n m := by
  induction n with
  | zero => rfl
  | succ n ih =>
    simp only [Memory.storeRange, ih (fun j hj => h j (by omega)), h n (by omega)]

/-- Two memories in canonical form with the same cells written to the same values are equal data. -/
theorem Memory.ext_of_lookup {cap : Nat} {m n : List (Nat × β)} (hm : Memory.wf cap m) (hn : Memory.wf cap n)
    (h : ∀ a, Memory.lookup m a = Memory.lookup n a) : m = n := by
  have none_below : ∀ (l : List (Nat × β)) (a : Nat), (∀ p ∈ l, a < p.1) → Memory.lookup l a = none := by
    intro l a hl
    induction l with
    | nil => rfl
    | cons p l ih =>
      have h1 := hl p List.mem_cons_self
      simp only [Memory.lookup]
      rw [if_neg (by omega)]
      exact ih (fun q hq => hl q (List.mem_cons_of_mem _ hq))
  have key : ∀ (m n : List (Nat × β)), m.Pairwise (fun p q => p.1 < q.1) → n.Pairwise (fun p q => p.1 < q.1) →
      (∀ a, Memory.lookup m a = Memory.lookup n a) → m = n := by
    intro m
    induction m with
    | nil =>
      intro n _ _ h
      cases n with
      | nil => rfl
      | cons q n => have := h q.1; simp [Memory.lookup] at this
    | cons p m ih =>
      intro n hm hn h
      cases n with
      | nil => have := h p.1; simp [Memory.lookup] at this
      | cons q n =>
        obtain ⟨hp, hm'⟩ := List.pairwise_cons.1 hm
        obtain ⟨hq, hn'⟩ := List.pairwise_cons.1 hn
        have hkey : p.1 = q.1 := by
          rcases Nat.lt_trichotomy p.1 q.1 with hlt | heq | hgt
          · have e1 := h p.1
            have e2 := none_below (q :: n) p.1 (fun r hr => by
              rcases List.mem_cons.1 hr with rfl | hr
              · exact hlt
              · exact Nat.lt_trans hlt (hq r hr))
            simp [Memory.lookup] at e1 e2
            simp_all
          · exact heq
          · have e1 := h q.1
            have e2 := none_below (p :: m) q.1 (fun r hr => by
              rcases List.mem_cons.1 hr with rfl | hr
              · exact hgt
              · exact Nat.lt_trans hgt (hp r hr))
            simp [Memory.lookup] at e1 e2
            simp_all
        have hval : p.2 = q.2 := by
          have e := h p.1
          simpa [Memory.lookup, hkey] using e
        have htail : m = n := by
          refine ih n hm' hn' (fun a => ?_)
          by_cases ha : a = p.1
          · rw [none_below m a (fun r hr => ha ▸ hp r hr), none_below n a (fun r hr => by
              rw [ha, hkey]; exact hq r hr)]
          · have e := h a
            simpa [Memory.lookup, ha, hkey ▸ ha] using e
        rw [htail, Prod.ext hkey hval]
  exact key m n hm.1 hn.1 h

/-! ## PB and PX -/

/-- PB after a byte store. -/
theorem pbByte_store (pb : List Host.Cell) (k a : Nat) (v : Byte) :
    pbByte (Memory.store pb k v) a = if a = k then v else pbByte pb a := by
  simp only [pbByte, Memory.lookup_store]
  split_ifs <;> rfl

/-- PX after a word store. -/
theorem pxWord_store (px : List (Nat × Word)) (k a : Nat) (v : Word) :
    pxWord (Memory.store px k v) a = if a = k then v else pxWord px a := by
  simp only [pxWord, Memory.lookup_store]
  split_ifs <;> rfl

/-- PB after a run of byte stores from index 0. -/
theorem pbByte_storeRange (f : Nat → Byte) (n : Nat) (pb : List Host.Cell) (a : Nat) :
    pbByte (Memory.storeRange f n pb) a = if a < n then f a else pbByte pb a := by
  simp only [pbByte, Memory.lookup_storeRange]
  split_ifs <;> rfl

/-- PX after a run of word stores from index 0. -/
theorem pxWord_storeRange (f : Nat → Word) (n : Nat) (px : List (Nat × Word)) (a : Nat) :
    pxWord (Memory.storeRange f n px) a = if a < n then f a else pxWord px a := by
  simp only [pxWord, Memory.lookup_storeRange]
  split_ifs <;> rfl

/-- PB after a 16-bit write (R54): two bytes, low byte first. -/
theorem pbByte_memWrite16 (pb : List Host.Cell) (k a : Nat) (w : Half) :
    pbByte (memWrite16 pb k w) a =
      if a = k then w.extractLsb' 0 8 else if a = k + 1 then w.extractLsb' 8 8 else pbByte pb a := by
  simp only [memWrite16, pbByte_store]
  split_ifs <;> first | rfl | omega

/-- A 16-bit write inside the capacity keeps the canonical form. -/
theorem wf_memWrite16 {cap : Nat} {pb : List Host.Cell} (h : Memory.wf cap pb) {k : Nat} (hk : k + 2 ≤ cap)
    (w : Half) : Memory.wf cap (memWrite16 pb k w) :=
  Memory.wf_store (Memory.wf_store h (by omega) _) (by omega) _

/-- PB after the encoder's first `n` pixels (R180, R181): the two Light bytes of each group, nothing else. -/
theorem pbByte_encodePixels (px : List (Nat × Word)) (n : Nat) (pb : List Host.Cell) (a : Nat) :
    pbByte (encodePixels px n pb) a =
      if a < 8 * n ∧ a % 8 = 0 then (pixelColour px (a / 8)).extractLsb' 0 8
      else if a < 8 * n ∧ a % 8 = 1 then (pixelColour px (a / 8)).extractLsb' 8 8
      else pbByte pb a := by
  induction n with
  | zero => simp [encodePixels]
  | succ n ih =>
    simp only [encodePixels, encodePixel, pbByte_memWrite16, ih]
    by_cases h0 : a = 8 * n
    · subst h0; simp
    · by_cases h1 : a = 8 * n + 1
      · subst h1
        have e1 : (8 * n + 1) % 8 = 1 := by omega
        have e2 : (8 * n + 1) / 8 = n := by omega
        have e3 : 8 * n + 1 < 8 * (n + 1) := by omega
        simp [e1, e2, e3]
      · rw [if_neg h0, if_neg h1]
        have e : (a < 8 * (n + 1) ∧ a % 8 = 0 ↔ a < 8 * n ∧ a % 8 = 0) ∧
            (a < 8 * (n + 1) ∧ a % 8 = 1 ↔ a < 8 * n ∧ a % 8 = 1) := by omega
        simp only [e.1, e.2]

/-- The encoder's pixel loop keeps the canonical form (R57). -/
theorem wf_encodePixels {cap : Nat} {pb : List Host.Cell} (h : Memory.wf cap pb) (px : List (Nat × Word)) {n : Nat}
    (hn : 8 * n ≤ cap) : Memory.wf cap (encodePixels px n pb) := by
  induction n with
  | zero => exact h
  | succ n ih => exact wf_memWrite16 (ih (by omega)) (by omega) _

/-- The background keeps the canonical form (R57, R183). -/
theorem wf_background {cap : Nat} {pb : List Host.Cell} (h : Memory.wf cap pb) (f : FillMode) {n : Nat}
    (hn : n ≤ cap) : Memory.wf cap (background f n pb) := by
  cases f with
  | zeroFill => exact Memory.wf_storeRange h _ hn
  | patch => exact h

end Sys2Proof.Machine
end

