-- ==== Sys2Proof/Laws/State.lean ====
section
/-! SUPPORT. The fields of each state update of the shared operations: one lemma per field, true by rfl. -/

namespace Sys2Proof.Machine

/-! ### startCommand -/

@[simp] theorem startCommand_cmd (w : Word) (s : State) : (startCommand w s).cmd = w := rfl
@[simp] theorem startCommand_status (w : Word) (s : State) : (startCommand w s).status = statusBusy := rfl
@[simp] theorem startCommand_width (w : Word) (s : State) : (startCommand w s).width = s.width := rfl
@[simp] theorem startCommand_height (w : Word) (s : State) : (startCommand w s).height = s.height := rfl
@[simp] theorem startCommand_bufLen (w : Word) (s : State) : (startCommand w s).bufLen = s.bufLen := rfl
@[simp] theorem startCommand_imgW (w : Word) (s : State) : (startCommand w s).imgW = s.imgW := rfl
@[simp] theorem startCommand_imgH (w : Word) (s : State) : (startCommand w s).imgH = s.imgH := rfl
@[simp] theorem startCommand_destLen (w : Word) (s : State) : (startCommand w s).destLen = s.destLen := rfl
@[simp] theorem startCommand_opa (w : Word) (s : State) : (startCommand w s).opa = s.opa := rfl
@[simp] theorem startCommand_xOut (w : Word) (s : State) : (startCommand w s).xOut = s.xOut := rfl
@[simp] theorem startCommand_yOut (w : Word) (s : State) : (startCommand w s).yOut = s.yOut := rfl
@[simp] theorem startCommand_res0 (w : Word) (s : State) : (startCommand w s).res0 = s.res0 := rfl
@[simp] theorem startCommand_res1 (w : Word) (s : State) : (startCommand w s).res1 = s.res1 := rfl
@[simp] theorem startCommand_outW (w : Word) (s : State) : (startCommand w s).outW = s.outW := rfl
@[simp] theorem startCommand_outH (w : Word) (s : State) : (startCommand w s).outH = s.outH := rfl
@[simp] theorem startCommand_gidx (w : Word) (s : State) : (startCommand w s).gidx = 0 := rfl
@[simp] theorem startCommand_phase (w : Word) (s : State) : (startCommand w s).phase = .check := rfl
@[simp] theorem startCommand_lat (w : Word) (s : State) : (startCommand w s).lat = { s.latchNow with cmd := w } := rfl
@[simp] theorem startCommand_pb (w : Word) (s : State) : (startCommand w s).pb = s.pb := rfl
@[simp] theorem startCommand_px (w : Word) (s : State) : (startCommand w s).px = s.px := rfl
@[simp] theorem startCommand_caps (w : Word) (s : State) : (startCommand w s).caps = s.caps := rfl
@[simp] theorem startCommand_host (w : Word) (s : State) : (startCommand w s).host = s.host := rfl
@[simp] theorem startCommand_reply (w : Word) (s : State) : (startCommand w s).reply = s.reply := rfl
@[simp] theorem startCommand_abandoned (w : Word) (s : State) : (startCommand w s).abandoned = s.abandoned := rfl

/-! ### raiseError -/

@[simp] theorem raiseError_cmd (e : ErrorClass) (s : State) : (raiseError e s).cmd = s.cmd := rfl
@[simp] theorem raiseError_status (e : ErrorClass) (s : State) : (raiseError e s).status = statusError e := rfl
@[simp] theorem raiseError_width (e : ErrorClass) (s : State) : (raiseError e s).width = s.width := rfl
@[simp] theorem raiseError_height (e : ErrorClass) (s : State) : (raiseError e s).height = s.height := rfl
@[simp] theorem raiseError_bufLen (e : ErrorClass) (s : State) : (raiseError e s).bufLen = s.bufLen := rfl
@[simp] theorem raiseError_imgW (e : ErrorClass) (s : State) : (raiseError e s).imgW = s.imgW := rfl
@[simp] theorem raiseError_imgH (e : ErrorClass) (s : State) : (raiseError e s).imgH = s.imgH := rfl
@[simp] theorem raiseError_destLen (e : ErrorClass) (s : State) : (raiseError e s).destLen = s.destLen := rfl
@[simp] theorem raiseError_opa (e : ErrorClass) (s : State) : (raiseError e s).opa = s.opa := rfl
@[simp] theorem raiseError_xOut (e : ErrorClass) (s : State) : (raiseError e s).xOut = s.xOut := rfl
@[simp] theorem raiseError_yOut (e : ErrorClass) (s : State) : (raiseError e s).yOut = s.yOut := rfl
@[simp] theorem raiseError_res0 (e : ErrorClass) (s : State) : (raiseError e s).res0 = s.res0 := rfl
@[simp] theorem raiseError_res1 (e : ErrorClass) (s : State) : (raiseError e s).res1 = s.res1 := rfl
@[simp] theorem raiseError_outW (e : ErrorClass) (s : State) : (raiseError e s).outW = s.outW := rfl
@[simp] theorem raiseError_outH (e : ErrorClass) (s : State) : (raiseError e s).outH = s.outH := rfl
@[simp] theorem raiseError_gidx (e : ErrorClass) (s : State) : (raiseError e s).gidx = 0 := rfl
@[simp] theorem raiseError_phase (e : ErrorClass) (s : State) : (raiseError e s).phase = .rest := rfl
@[simp] theorem raiseError_lat (e : ErrorClass) (s : State) : (raiseError e s).lat = s.lat := rfl
@[simp] theorem raiseError_pb (e : ErrorClass) (s : State) : (raiseError e s).pb = s.pb := rfl
@[simp] theorem raiseError_px (e : ErrorClass) (s : State) : (raiseError e s).px = s.px := rfl
@[simp] theorem raiseError_caps (e : ErrorClass) (s : State) : (raiseError e s).caps = s.caps := rfl
@[simp] theorem raiseError_host (e : ErrorClass) (s : State) : (raiseError e s).host = s.host := rfl
@[simp] theorem raiseError_reply (e : ErrorClass) (s : State) : (raiseError e s).reply = s.reply := rfl
@[simp] theorem raiseError_abandoned (e : ErrorClass) (s : State) : (raiseError e s).abandoned = s.abandoned := rfl

/-! ### finishDone -/

@[simp] theorem finishDone_cmd (n : Nat) (s : State) : (finishDone n s).cmd = s.cmd := rfl
@[simp] theorem finishDone_status (n : Nat) (s : State) : (finishDone n s).status = statusDone := rfl
@[simp] theorem finishDone_width (n : Nat) (s : State) : (finishDone n s).width = s.width := rfl
@[simp] theorem finishDone_height (n : Nat) (s : State) : (finishDone n s).height = s.height := rfl
@[simp] theorem finishDone_bufLen (n : Nat) (s : State) : (finishDone n s).bufLen = s.bufLen := rfl
@[simp] theorem finishDone_imgW (n : Nat) (s : State) : (finishDone n s).imgW = s.imgW := rfl
@[simp] theorem finishDone_imgH (n : Nat) (s : State) : (finishDone n s).imgH = s.imgH := rfl
@[simp] theorem finishDone_destLen (n : Nat) (s : State) : (finishDone n s).destLen = s.destLen := rfl
@[simp] theorem finishDone_opa (n : Nat) (s : State) : (finishDone n s).opa = s.opa := rfl
@[simp] theorem finishDone_xOut (n : Nat) (s : State) : (finishDone n s).xOut = s.xOut := rfl
@[simp] theorem finishDone_yOut (n : Nat) (s : State) : (finishDone n s).yOut = s.yOut := rfl
@[simp] theorem finishDone_res0 (n : Nat) (s : State) : (finishDone n s).res0 = s.res0 := rfl
@[simp] theorem finishDone_res1 (n : Nat) (s : State) : (finishDone n s).res1 = s.res1 := rfl
@[simp] theorem finishDone_outW (n : Nat) (s : State) : (finishDone n s).outW = s.outW := rfl
@[simp] theorem finishDone_outH (n : Nat) (s : State) : (finishDone n s).outH = s.outH := rfl
@[simp] theorem finishDone_gidx (n : Nat) (s : State) : (finishDone n s).gidx = BitVec.ofNat 32 n := rfl
@[simp] theorem finishDone_phase (n : Nat) (s : State) : (finishDone n s).phase = .rest := rfl
@[simp] theorem finishDone_lat (n : Nat) (s : State) : (finishDone n s).lat = s.lat := rfl
@[simp] theorem finishDone_pb (n : Nat) (s : State) : (finishDone n s).pb = s.pb := rfl
@[simp] theorem finishDone_px (n : Nat) (s : State) : (finishDone n s).px = s.px := rfl
@[simp] theorem finishDone_caps (n : Nat) (s : State) : (finishDone n s).caps = s.caps := rfl
@[simp] theorem finishDone_host (n : Nat) (s : State) : (finishDone n s).host = s.host := rfl
@[simp] theorem finishDone_reply (n : Nat) (s : State) : (finishDone n s).reply = s.reply := rfl
@[simp] theorem finishDone_abandoned (n : Nat) (s : State) : (finishDone n s).abandoned = s.abandoned := rfl

/-! ### scalarDone -/

@[simp] theorem scalarDone_cmd (v : Word) (s : State) : (scalarDone v s).cmd = s.cmd := rfl
@[simp] theorem scalarDone_status (v : Word) (s : State) : (scalarDone v s).status = statusDone := rfl
@[simp] theorem scalarDone_width (v : Word) (s : State) : (scalarDone v s).width = s.width := rfl
@[simp] theorem scalarDone_height (v : Word) (s : State) : (scalarDone v s).height = s.height := rfl
@[simp] theorem scalarDone_bufLen (v : Word) (s : State) : (scalarDone v s).bufLen = s.bufLen := rfl
@[simp] theorem scalarDone_imgW (v : Word) (s : State) : (scalarDone v s).imgW = s.imgW := rfl
@[simp] theorem scalarDone_imgH (v : Word) (s : State) : (scalarDone v s).imgH = s.imgH := rfl
@[simp] theorem scalarDone_destLen (v : Word) (s : State) : (scalarDone v s).destLen = s.destLen := rfl
@[simp] theorem scalarDone_opa (v : Word) (s : State) : (scalarDone v s).opa = s.opa := rfl
@[simp] theorem scalarDone_xOut (v : Word) (s : State) : (scalarDone v s).xOut = s.xOut := rfl
@[simp] theorem scalarDone_yOut (v : Word) (s : State) : (scalarDone v s).yOut = s.yOut := rfl
@[simp] theorem scalarDone_res0 (v : Word) (s : State) : (scalarDone v s).res0 = v := rfl
@[simp] theorem scalarDone_res1 (v : Word) (s : State) : (scalarDone v s).res1 = s.res1 := rfl
@[simp] theorem scalarDone_outW (v : Word) (s : State) : (scalarDone v s).outW = s.outW := rfl
@[simp] theorem scalarDone_outH (v : Word) (s : State) : (scalarDone v s).outH = s.outH := rfl
@[simp] theorem scalarDone_gidx (v : Word) (s : State) : (scalarDone v s).gidx = 0 := rfl
@[simp] theorem scalarDone_phase (v : Word) (s : State) : (scalarDone v s).phase = .rest := rfl
@[simp] theorem scalarDone_lat (v : Word) (s : State) : (scalarDone v s).lat = s.lat := rfl
@[simp] theorem scalarDone_pb (v : Word) (s : State) : (scalarDone v s).pb = s.pb := rfl
@[simp] theorem scalarDone_px (v : Word) (s : State) : (scalarDone v s).px = s.px := rfl
@[simp] theorem scalarDone_caps (v : Word) (s : State) : (scalarDone v s).caps = s.caps := rfl
@[simp] theorem scalarDone_host (v : Word) (s : State) : (scalarDone v s).host = s.host := rfl
@[simp] theorem scalarDone_reply (v : Word) (s : State) : (scalarDone v s).reply = s.reply := rfl
@[simp] theorem scalarDone_abandoned (v : Word) (s : State) : (scalarDone v s).abandoned = s.abandoned := rfl

/-! ### boffDone -/

@[simp] theorem boffDone_cmd (c : Channel) (s : State) : (boffDone c s).cmd = s.cmd := rfl
@[simp] theorem boffDone_status (c : Channel) (s : State) : (boffDone c s).status = statusDone := rfl
@[simp] theorem boffDone_width (c : Channel) (s : State) : (boffDone c s).width = s.width := rfl
@[simp] theorem boffDone_height (c : Channel) (s : State) : (boffDone c s).height = s.height := rfl
@[simp] theorem boffDone_bufLen (c : Channel) (s : State) : (boffDone c s).bufLen = s.bufLen := rfl
@[simp] theorem boffDone_imgW (c : Channel) (s : State) : (boffDone c s).imgW = s.imgW := rfl
@[simp] theorem boffDone_imgH (c : Channel) (s : State) : (boffDone c s).imgH = s.imgH := rfl
@[simp] theorem boffDone_destLen (c : Channel) (s : State) : (boffDone c s).destLen = s.destLen := rfl
@[simp] theorem boffDone_opa (c : Channel) (s : State) : (boffDone c s).opa = s.opa := rfl
@[simp] theorem boffDone_xOut (c : Channel) (s : State) : (boffDone c s).xOut = s.xOut := rfl
@[simp] theorem boffDone_yOut (c : Channel) (s : State) : (boffDone c s).yOut = s.yOut := rfl
@[simp] theorem boffDone_res0 (c : Channel) (s : State) : (boffDone c s).res0 = BitVec.ofNat 32 (boffOffset c s.lat) := rfl
@[simp] theorem boffDone_res1 (c : Channel) (s : State) : (boffDone c s).res1 = BitVec.ofNat 32 (boffGroup s.lat) := rfl
@[simp] theorem boffDone_outW (c : Channel) (s : State) : (boffDone c s).outW = s.outW := rfl
@[simp] theorem boffDone_outH (c : Channel) (s : State) : (boffDone c s).outH = s.outH := rfl
@[simp] theorem boffDone_gidx (c : Channel) (s : State) : (boffDone c s).gidx = 0 := rfl
@[simp] theorem boffDone_phase (c : Channel) (s : State) : (boffDone c s).phase = .rest := rfl
@[simp] theorem boffDone_lat (c : Channel) (s : State) : (boffDone c s).lat = s.lat := rfl
@[simp] theorem boffDone_pb (c : Channel) (s : State) : (boffDone c s).pb = s.pb := rfl
@[simp] theorem boffDone_px (c : Channel) (s : State) : (boffDone c s).px = s.px := rfl
@[simp] theorem boffDone_caps (c : Channel) (s : State) : (boffDone c s).caps = s.caps := rfl
@[simp] theorem boffDone_host (c : Channel) (s : State) : (boffDone c s).host = s.host := rfl
@[simp] theorem boffDone_reply (c : Channel) (s : State) : (boffDone c s).reply = s.reply := rfl
@[simp] theorem boffDone_abandoned (c : Channel) (s : State) : (boffDone c s).abandoned = s.abandoned := rfl

/-! ### rasterDone -/

@[simp] theorem rasterDone_cmd (p : List Host.Cell → Nat → Word) (s : State) : (rasterDone p s).cmd = s.cmd := rfl
@[simp] theorem rasterDone_status (p : List Host.Cell → Nat → Word) (s : State) : (rasterDone p s).status = statusDone := rfl
@[simp] theorem rasterDone_width (p : List Host.Cell → Nat → Word) (s : State) : (rasterDone p s).width = s.width := rfl
@[simp] theorem rasterDone_height (p : List Host.Cell → Nat → Word) (s : State) : (rasterDone p s).height = s.height := rfl
@[simp] theorem rasterDone_bufLen (p : List Host.Cell → Nat → Word) (s : State) : (rasterDone p s).bufLen = s.bufLen := rfl
@[simp] theorem rasterDone_imgW (p : List Host.Cell → Nat → Word) (s : State) : (rasterDone p s).imgW = s.imgW := rfl
@[simp] theorem rasterDone_imgH (p : List Host.Cell → Nat → Word) (s : State) : (rasterDone p s).imgH = s.imgH := rfl
@[simp] theorem rasterDone_destLen (p : List Host.Cell → Nat → Word) (s : State) : (rasterDone p s).destLen = s.destLen := rfl
@[simp] theorem rasterDone_opa (p : List Host.Cell → Nat → Word) (s : State) : (rasterDone p s).opa = s.opa := rfl
@[simp] theorem rasterDone_xOut (p : List Host.Cell → Nat → Word) (s : State) : (rasterDone p s).xOut = s.xOut := rfl
@[simp] theorem rasterDone_yOut (p : List Host.Cell → Nat → Word) (s : State) : (rasterDone p s).yOut = s.yOut := rfl
@[simp] theorem rasterDone_res0 (p : List Host.Cell → Nat → Word) (s : State) : (rasterDone p s).res0 = s.res0 := rfl
@[simp] theorem rasterDone_res1 (p : List Host.Cell → Nat → Word) (s : State) : (rasterDone p s).res1 = s.res1 := rfl
@[simp] theorem rasterDone_outW (p : List Host.Cell → Nat → Word) (s : State) : (rasterDone p s).outW = BitVec.ofNat 32 s.lat.outWidth := rfl
@[simp] theorem rasterDone_outH (p : List Host.Cell → Nat → Word) (s : State) : (rasterDone p s).outH = BitVec.ofNat 32 s.lat.outHeight := rfl
@[simp] theorem rasterDone_gidx (p : List Host.Cell → Nat → Word) (s : State) : (rasterDone p s).gidx = BitVec.ofNat 32 s.lat.groups := rfl
@[simp] theorem rasterDone_phase (p : List Host.Cell → Nat → Word) (s : State) : (rasterDone p s).phase = .rest := rfl
@[simp] theorem rasterDone_lat (p : List Host.Cell → Nat → Word) (s : State) : (rasterDone p s).lat = s.lat := rfl
@[simp] theorem rasterDone_pb (p : List Host.Cell → Nat → Word) (s : State) : (rasterDone p s).pb = s.pb := rfl
@[simp] theorem rasterDone_px (p : List Host.Cell → Nat → Word) (s : State) : (rasterDone p s).px = Memory.storeRange (p s.pb) s.lat.groups s.px := rfl
@[simp] theorem rasterDone_caps (p : List Host.Cell → Nat → Word) (s : State) : (rasterDone p s).caps = s.caps := rfl
@[simp] theorem rasterDone_host (p : List Host.Cell → Nat → Word) (s : State) : (rasterDone p s).host = s.host := rfl
@[simp] theorem rasterDone_reply (p : List Host.Cell → Nat → Word) (s : State) : (rasterDone p s).reply = s.reply := rfl
@[simp] theorem rasterDone_abandoned (p : List Host.Cell → Nat → Word) (s : State) : (rasterDone p s).abandoned = s.abandoned := rfl

/-! ### encodeDone -/

@[simp] theorem encodeDone_cmd (f : FillMode) (s : State) : (encodeDone f s).cmd = s.cmd := rfl
@[simp] theorem encodeDone_status (f : FillMode) (s : State) : (encodeDone f s).status = statusDone := rfl
@[simp] theorem encodeDone_width (f : FillMode) (s : State) : (encodeDone f s).width = s.width := rfl
@[simp] theorem encodeDone_height (f : FillMode) (s : State) : (encodeDone f s).height = s.height := rfl
@[simp] theorem encodeDone_bufLen (f : FillMode) (s : State) : (encodeDone f s).bufLen = s.bufLen := rfl
@[simp] theorem encodeDone_imgW (f : FillMode) (s : State) : (encodeDone f s).imgW = s.imgW := rfl
@[simp] theorem encodeDone_imgH (f : FillMode) (s : State) : (encodeDone f s).imgH = s.imgH := rfl
@[simp] theorem encodeDone_destLen (f : FillMode) (s : State) : (encodeDone f s).destLen = s.destLen := rfl
@[simp] theorem encodeDone_opa (f : FillMode) (s : State) : (encodeDone f s).opa = s.opa := rfl
@[simp] theorem encodeDone_xOut (f : FillMode) (s : State) : (encodeDone f s).xOut = s.xOut := rfl
@[simp] theorem encodeDone_yOut (f : FillMode) (s : State) : (encodeDone f s).yOut = s.yOut := rfl
@[simp] theorem encodeDone_res0 (f : FillMode) (s : State) : (encodeDone f s).res0 = s.res0 := rfl
@[simp] theorem encodeDone_res1 (f : FillMode) (s : State) : (encodeDone f s).res1 = s.res1 := rfl
@[simp] theorem encodeDone_outW (f : FillMode) (s : State) : (encodeDone f s).outW = s.outW := rfl
@[simp] theorem encodeDone_outH (f : FillMode) (s : State) : (encodeDone f s).outH = s.outH := rfl
@[simp] theorem encodeDone_gidx (f : FillMode) (s : State) : (encodeDone f s).gidx = BitVec.ofNat 32 s.lat.pixels := rfl
@[simp] theorem encodeDone_phase (f : FillMode) (s : State) : (encodeDone f s).phase = .rest := rfl
@[simp] theorem encodeDone_lat (f : FillMode) (s : State) : (encodeDone f s).lat = s.lat := rfl
@[simp] theorem encodeDone_pb (f : FillMode) (s : State) : (encodeDone f s).pb = encodePixels s.px s.lat.pixels (background f s.lat.destLen.toNat s.pb) := rfl
@[simp] theorem encodeDone_px (f : FillMode) (s : State) : (encodeDone f s).px = s.px := rfl
@[simp] theorem encodeDone_caps (f : FillMode) (s : State) : (encodeDone f s).caps = s.caps := rfl
@[simp] theorem encodeDone_host (f : FillMode) (s : State) : (encodeDone f s).host = s.host := rfl
@[simp] theorem encodeDone_reply (f : FillMode) (s : State) : (encodeDone f s).reply = s.reply := rfl
@[simp] theorem encodeDone_abandoned (f : FillMode) (s : State) : (encodeDone f s).abandoned = s.abandoned := rfl

/-! ### answer -/

@[simp] theorem answer_cmd (v : Word) (s : State) : (answer v s).cmd = s.cmd := rfl
@[simp] theorem answer_status (v : Word) (s : State) : (answer v s).status = s.status := rfl
@[simp] theorem answer_width (v : Word) (s : State) : (answer v s).width = s.width := rfl
@[simp] theorem answer_height (v : Word) (s : State) : (answer v s).height = s.height := rfl
@[simp] theorem answer_bufLen (v : Word) (s : State) : (answer v s).bufLen = s.bufLen := rfl
@[simp] theorem answer_imgW (v : Word) (s : State) : (answer v s).imgW = s.imgW := rfl
@[simp] theorem answer_imgH (v : Word) (s : State) : (answer v s).imgH = s.imgH := rfl
@[simp] theorem answer_destLen (v : Word) (s : State) : (answer v s).destLen = s.destLen := rfl
@[simp] theorem answer_opa (v : Word) (s : State) : (answer v s).opa = s.opa := rfl
@[simp] theorem answer_xOut (v : Word) (s : State) : (answer v s).xOut = s.xOut := rfl
@[simp] theorem answer_yOut (v : Word) (s : State) : (answer v s).yOut = s.yOut := rfl
@[simp] theorem answer_res0 (v : Word) (s : State) : (answer v s).res0 = s.res0 := rfl
@[simp] theorem answer_res1 (v : Word) (s : State) : (answer v s).res1 = s.res1 := rfl
@[simp] theorem answer_outW (v : Word) (s : State) : (answer v s).outW = s.outW := rfl
@[simp] theorem answer_outH (v : Word) (s : State) : (answer v s).outH = s.outH := rfl
@[simp] theorem answer_gidx (v : Word) (s : State) : (answer v s).gidx = s.gidx := rfl
@[simp] theorem answer_phase (v : Word) (s : State) : (answer v s).phase = s.phase := rfl
@[simp] theorem answer_lat (v : Word) (s : State) : (answer v s).lat = s.lat := rfl
@[simp] theorem answer_pb (v : Word) (s : State) : (answer v s).pb = s.pb := rfl
@[simp] theorem answer_px (v : Word) (s : State) : (answer v s).px = s.px := rfl
@[simp] theorem answer_caps (v : Word) (s : State) : (answer v s).caps = s.caps := rfl
@[simp] theorem answer_host (v : Word) (s : State) : (answer v s).host = s.host := rfl
@[simp] theorem answer_reply (v : Word) (s : State) : (answer v s).reply = some v := rfl
@[simp] theorem answer_abandoned (v : Word) (s : State) : (answer v s).abandoned = s.abandoned := rfl

/-! ### resetRegisters -/

@[simp] theorem resetRegisters_cmd (s : State) : (resetRegisters s).cmd = 0 := rfl
@[simp] theorem resetRegisters_status (s : State) : (resetRegisters s).status = 0 := rfl
@[simp] theorem resetRegisters_width (s : State) : (resetRegisters s).width = 0 := rfl
@[simp] theorem resetRegisters_height (s : State) : (resetRegisters s).height = 0 := rfl
@[simp] theorem resetRegisters_bufLen (s : State) : (resetRegisters s).bufLen = 0 := rfl
@[simp] theorem resetRegisters_imgW (s : State) : (resetRegisters s).imgW = 0 := rfl
@[simp] theorem resetRegisters_imgH (s : State) : (resetRegisters s).imgH = 0 := rfl
@[simp] theorem resetRegisters_destLen (s : State) : (resetRegisters s).destLen = 0 := rfl
@[simp] theorem resetRegisters_opa (s : State) : (resetRegisters s).opa = 0 := rfl
@[simp] theorem resetRegisters_xOut (s : State) : (resetRegisters s).xOut = 0 := rfl
@[simp] theorem resetRegisters_yOut (s : State) : (resetRegisters s).yOut = 0 := rfl
@[simp] theorem resetRegisters_res0 (s : State) : (resetRegisters s).res0 = 0 := rfl
@[simp] theorem resetRegisters_res1 (s : State) : (resetRegisters s).res1 = 0 := rfl
@[simp] theorem resetRegisters_outW (s : State) : (resetRegisters s).outW = 0 := rfl
@[simp] theorem resetRegisters_outH (s : State) : (resetRegisters s).outH = 0 := rfl
@[simp] theorem resetRegisters_gidx (s : State) : (resetRegisters s).gidx = 0 := rfl
@[simp] theorem resetRegisters_phase (s : State) : (resetRegisters s).phase = .rest := rfl
@[simp] theorem resetRegisters_lat (s : State) : (resetRegisters s).lat = Latch.zero := rfl
@[simp] theorem resetRegisters_pb (s : State) : (resetRegisters s).pb = s.pb := rfl
@[simp] theorem resetRegisters_px (s : State) : (resetRegisters s).px = s.px := rfl
@[simp] theorem resetRegisters_caps (s : State) : (resetRegisters s).caps = s.caps := rfl
@[simp] theorem resetRegisters_host (s : State) : (resetRegisters s).host = s.host := rfl
@[simp] theorem resetRegisters_reply (s : State) : (resetRegisters s).reply = s.reply := rfl
@[simp] theorem resetRegisters_abandoned (s : State) : (resetRegisters s).abandoned = s.abandoned := rfl

/-! ### fillStep -/

@[simp] theorem fillStep_cmd (s : State) : (fillStep s).cmd = s.cmd := rfl
@[simp] theorem fillStep_status (s : State) : (fillStep s).status = s.status := rfl
@[simp] theorem fillStep_width (s : State) : (fillStep s).width = s.width := rfl
@[simp] theorem fillStep_height (s : State) : (fillStep s).height = s.height := rfl
@[simp] theorem fillStep_bufLen (s : State) : (fillStep s).bufLen = s.bufLen := rfl
@[simp] theorem fillStep_imgW (s : State) : (fillStep s).imgW = s.imgW := rfl
@[simp] theorem fillStep_imgH (s : State) : (fillStep s).imgH = s.imgH := rfl
@[simp] theorem fillStep_destLen (s : State) : (fillStep s).destLen = s.destLen := rfl
@[simp] theorem fillStep_opa (s : State) : (fillStep s).opa = s.opa := rfl
@[simp] theorem fillStep_xOut (s : State) : (fillStep s).xOut = s.xOut := rfl
@[simp] theorem fillStep_yOut (s : State) : (fillStep s).yOut = s.yOut := rfl
@[simp] theorem fillStep_res0 (s : State) : (fillStep s).res0 = s.res0 := rfl
@[simp] theorem fillStep_res1 (s : State) : (fillStep s).res1 = s.res1 := rfl
@[simp] theorem fillStep_outW (s : State) : (fillStep s).outW = s.outW := rfl
@[simp] theorem fillStep_outH (s : State) : (fillStep s).outH = s.outH := rfl
@[simp] theorem fillStep_gidx (s : State) : (fillStep s).gidx = s.gidx := rfl
@[simp] theorem fillStep_phase (s : State) : (fillStep s).phase = .run := rfl
@[simp] theorem fillStep_lat (s : State) : (fillStep s).lat = s.lat := rfl
@[simp] theorem fillStep_pb (s : State) : (fillStep s).pb = zeroBytes s.lat.destLen.toNat s.pb := rfl
@[simp] theorem fillStep_px (s : State) : (fillStep s).px = s.px := rfl
@[simp] theorem fillStep_caps (s : State) : (fillStep s).caps = s.caps := rfl
@[simp] theorem fillStep_host (s : State) : (fillStep s).host = s.host := rfl
@[simp] theorem fillStep_reply (s : State) : (fillStep s).reply = s.reply := rfl
@[simp] theorem fillStep_abandoned (s : State) : (fillStep s).abandoned = s.abandoned := rfl

end Sys2Proof.Machine
end

