-- ==== Sys2Proof/Laws/Ops.lean ====
section
/-! SUPPORT. What the shared operations can do, said once: the outcome of a command, its checks, and the step of each
host action. -/

namespace Sys2Proof.Machine

/-- A command either fails with its first error or makes its effect (R211). -/
theorem conclude_cases (failed : Option ErrorClass) (effect : State → State) (s : State) :
    (∃ e, failed = some e ∧ conclude failed effect s = raiseError e s) ∨
      (failed = none ∧ conclude failed effect s = effect s) := by
  cases failed with
  | none => exact .inr ⟨rfl, rfl⟩
  | some e => exact .inl ⟨e, rfl, rfl⟩

@[simp] theorem conclude_some (e : ErrorClass) (effect : State → State) (s : State) :
    conclude (some e) effect s = raiseError e s := rfl

@[simp] theorem conclude_none (effect : State → State) (s : State) : conclude none effect s = effect s := rfl

/-- The effect of an operation whose checks have passed, as one update. -/
def wholeEffect (i : Instr) (s : State) : State :=
  match operationWork i s with
  | .atOnce r => r
  | .raster p => rasterDone p s
  | .encoder f => encodeDone f s

/-- Every operation answers a next state: its error, or its whole effect. -/
theorem exec_eq_conclude (i : Instr) (s : State) :
    exec i s = .next (conclude (operationCheck i s) (wholeEffect i) s) := by
  cases i <;> rfl

/-- What the raster checks say when they pass (R150, R204). -/
theorem rasterCheck_eq_none {s : State} (h : rasterCheck s = none) :
    s.lat.width.toNat % 4 = 0 ∧ s.lat.height.toNat % 4 = 0 ∧ s.lat.bufLen.toNat ≤ s.caps.pb.val ∧
      s.lat.groups ≤ s.caps.px.val ∧ 8 * s.lat.groups ≤ s.lat.bufLen.toNat := by
  unfold rasterCheck at h
  split_ifs at h with h1 h2 h3
  simp only [Latch.badDimensions] at h1
  omega

/-- When the raster checks pass (R150, R204). -/
theorem rasterCheck_of {s : State} (hw : s.lat.width.toNat % 4 = 0) (hh : s.lat.height.toNat % 4 = 0)
    (hb : s.lat.bufLen.toNat ≤ s.caps.pb.val) (hp : s.lat.groups ≤ s.caps.px.val)
    (hl : 8 * s.lat.groups ≤ s.lat.bufLen.toNat) : rasterCheck s = none := by
  unfold rasterCheck
  rw [if_neg (by simp [Latch.badDimensions, hw, hh]), if_neg (by omega), if_neg (by omega)]

/-- What the encoder's checks say when they pass (R180). -/
theorem encodeCheck_eq_none {s : State} (h : encodeCheck s = none) :
    s.lat.pixels ≤ s.caps.px.val ∧ s.lat.destLen.toNat ≤ s.caps.pb.val ∧ 8 * s.lat.pixels ≤ s.lat.destLen.toNat := by
  unfold encodeCheck at h
  split_ifs at h with h1 h2
  omega

/-- When the encoder's checks pass (R180). -/
theorem encodeCheck_of {s : State} (hp : s.lat.pixels ≤ s.caps.px.val) (hd : s.lat.destLen.toNat ≤ s.caps.pb.val)
    (hl : 8 * s.lat.pixels ≤ s.lat.destLen.toNat) : encodeCheck s = none := by
  unfold encodeCheck
  rw [if_neg (by omega), if_neg (by omega)]

/-- What the checks of `BOFF` say when they pass (R126). -/
theorem boffCheck_eq_none {c : Channel} {s : State} (h : boffCheck c s = none) :
    s.lat.width.toNat % 4 = 0 ∧ s.lat.height.toNat % 4 = 0 ∧ s.lat.bufLen.toNat ≤ s.caps.pb.val ∧
      s.lat.xOut.toNat < s.lat.outWidth ∧ s.lat.yOut.toNat < s.lat.outHeight ∧
      boffOffset c s.lat + 2 ≤ s.lat.bufLen.toNat := by
  unfold boffCheck at h
  split_ifs at h with h1 h2 h3 h4
  simp only [Latch.badDimensions] at h1
  omega

/-- The checks read the latch and the capacities only (R241). -/
theorem operationCheck_congr (i : Instr) {s t : State} (hl : s.lat = t.lat) (hc : s.caps = t.caps) :
    operationCheck i s = operationCheck i t := by
  cases i <;> simp only [operationCheck, boffCheck, extractCheck, rasterCheck, encodeCheck, hl, hc]

/-- The word a 16-bit read gives, as a number (R53). -/
theorem memRead16_toNat (pb : List Host.Cell) (a : Nat) :
    (memRead16 pb a).toNat = (pbByte pb a).toNat + 256 * (pbByte pb (a + 1)).toNat := by
  have h0 := (pbByte pb a).isLt
  simp only [memRead16, BitVec.toNat_append, Nat.shiftLeft_eq]
  rw [Nat.mul_comm, ← Nat.two_pow_add_eq_or_of_lt h0]
  omega

/-- A 16-bit read depends on its two bytes only. -/
theorem memRead16_congr {p q : List Host.Cell} {a : Nat} (h0 : pbByte p a = pbByte q a)
    (h1 : pbByte p (a + 1) = pbByte q (a + 1)) : memRead16 p a = memRead16 q a := by
  simp only [memRead16, h0, h1]

/-- The step takes the host's next action (R236). -/
theorem step_cons (s : State) (a : HostAction) (rest : List HostAction) (h : s.host = a :: rest) :
    step s = hostStep a { s with host := rest } := by
  simp only [step, machineStep, h]

/-- With no host action waiting the block moves (R236, R249). -/
theorem step_nil (s : State) (h : s.host = []) : step s = .next (blockStep s) := by
  simp only [step, machineStep, h]

end Sys2Proof.Machine
end

