-- ==== Sys2Proof/Laws/PerInstr.lean ====
section
/-! SUPPORT. Statements made for every constructor of Instr, one lemma each. -/

namespace Sys2Proof.Laws

/-- The fields of an operation's command word are legal (R89). -/
def EncodesLegally.Statement (i : Instr) : Prop := (commandFields (encode i)).wellFormed = true

theorem EncodesLegally.nop : EncodesLegally.Statement .nop := rfl
theorem EncodesLegally.dec565 : EncodesLegally.Statement .dec565 := rfl
theorem EncodesLegally.enc565 : EncodesLegally.Statement .enc565 := rfl
theorem EncodesLegally.greyAvg : EncodesLegally.Statement .greyAvg := rfl
theorem EncodesLegally.greyLum : EncodesLegally.Statement .greyLum := rfl
theorem EncodesLegally.boff (c : Channel) : EncodesLegally.Statement (.boff c) := by cases c <;> rfl
theorem EncodesLegally.extract (c : Channel) (k : MaskKind) (q : MaskReq) (g : GreySel) :
    EncodesLegally.Statement (.extract c k q g) := by cases c <;> cases k <;> cases q <;> cases g <;> rfl
theorem EncodesLegally.blendLight : EncodesLegally.Statement .blendLight := rfl
theorem EncodesLegally.blendLMask : EncodesLegally.Statement .blendLMask := rfl
theorem EncodesLegally.blendDark : EncodesLegally.Statement .blendDark := rfl
theorem EncodesLegally.blendDMask : EncodesLegally.Statement .blendDMask := rfl
theorem EncodesLegally.blendMComp : EncodesLegally.Statement .blendMComp := rfl
theorem EncodesLegally.blendCAvg : EncodesLegally.Statement .blendCAvg := rfl
theorem EncodesLegally.blendDmab : EncodesLegally.Statement .blendDmab := rfl
theorem EncodesLegally.encode (f : FillMode) : EncodesLegally.Statement (.encode f) := by cases f <;> rfl

end Sys2Proof.Laws
end

