-- ==== Sys2Proof/Tests/Slice0.lean ====
section
/-! SUPPORT. Small tests. The expected values are the spec's own: the worked encodings of R94, the table of R90 and the
vectors of spec/95_test_vectors.md, each named where it is used. The last part gives, for each statement that has
hypotheses, states that meet them. -/

namespace Sys2Proof.Tests

open Sys2Proof.Machine

/-! ## Command words -/

/-- The fields of `NOP`, all 0. -/
def blank : CommandFields := opFields 0

theorem test_wellFormed_accepts : blank.wellFormed = true := by decide
theorem test_wellFormed_refuses_reservedBits : ({ blank with reserved := 1 } : CommandFields).wellFormed = false := by
  decide
theorem test_wellFormed_refuses_reservedOp : ({ blank with op := 9 } : CommandFields).wellFormed = false := by decide
theorem test_wellFormed_refuses_unusedField : ({ blank with op := 1, chan := 1 } : CommandFields).wellFormed = false := by
  decide
theorem test_wellFormed_refuses_reservedStrat : ({ blank with op := 7, strat := 7 } : CommandFields).wellFormed = false := by
  decide
theorem test_wellFormed_refuses_reservedMaskKind :
    ({ blank with op := 6, maskKind := 3 } : CommandFields).wellFormed = false := by decide
theorem test_wellFormed_refuses_reservedMaskReq :
    ({ blank with op := 6, maskReq := 3 } : CommandFields).wellFormed = false := by decide

/-! Each word below is written field by field, high field first: bits 31:15, FILL, GREYSEL, MASKREQ, MASKKIND, CHAN,
STRAT, OP (R80). -/

theorem test_decode_nop : decode 0b00000000000000000_0_0_00_00_00_000_0000 = .ok .nop := by decide
theorem test_decode_dec565 : decode 0b00000000000000000_0_0_00_00_00_000_0001 = .ok .dec565 := by decide
theorem test_decode_enc565 : decode 0b00000000000000000_0_0_00_00_00_000_0010 = .ok .enc565 := by decide
theorem test_decode_greyAvg : decode 0b00000000000000000_0_0_00_00_00_000_0011 = .ok .greyAvg := by decide
theorem test_decode_greyLum : decode 0b00000000000000000_0_0_00_00_00_000_0100 = .ok .greyLum := by decide
theorem test_decode_boff : decode 0b00000000000000000_0_0_00_00_11_000_0101 = .ok (.boff .darkMask) := by decide
theorem test_decode_extract :
    decode 0b00000000000000000_0_0_10_01_01_000_0110 = .ok (.extract .dark .alpha .dark .averaged) := by decide
theorem test_decode_extract_inverse :
    decode 0b00000000000000000_0_1_01_10_10_000_0110 = .ok (.extract .lightMask .inverseAlpha .light .luminosity) := by
  decide
theorem test_decode_blendLight : decode 0b00000000000000000_0_0_00_00_00_000_0111 = .ok .blendLight := by decide
theorem test_decode_blendLMask : decode 0b00000000000000000_0_0_00_00_00_001_0111 = .ok .blendLMask := by decide
theorem test_decode_blendDark : decode 0b00000000000000000_0_0_00_00_00_010_0111 = .ok .blendDark := by decide
theorem test_decode_blendDMask : decode 0b00000000000000000_0_0_00_00_00_011_0111 = .ok .blendDMask := by decide
theorem test_decode_blendMComp : decode 0b00000000000000000_0_0_00_00_00_100_0111 = .ok .blendMComp := by decide
theorem test_decode_blendCAvg : decode 0b00000000000000000_0_0_00_00_00_101_0111 = .ok .blendCAvg := by decide
theorem test_decode_blendDmab : decode 0b00000000000000000_0_0_00_00_00_110_0111 = .ok .blendDmab := by decide
theorem test_decode_encode : decode 0b00000000000000000_1_0_00_00_00_000_1000 = .ok (.encode .patch) := by decide

/-- The illegal words of V-EC-07 to V-EC-17. -/
theorem test_decode_refuses :
    [0x09, 0x0F, 0x77, 0x81, 0x11, 0x606, 0x3786, 0x1806, 0x1E06, 0x3D86, 0x8000, 0x80000000, 0x4006, 0x4007, 0x87,
      0x18, 0x205, 0x2005, 0x10, 0x4000].all (fun w => (decodeTableWord 32 w).isNone) = true := by decide

/-! ## One command on a small state -/

/-- Reset with the vectors' capacities. -/
def base : State := { State.reset with caps := ⟨4096, 512⟩ }

/-- Bytes, or pixel words, from index 0 up. -/
def cells {β : Type} (vs : List β) : List (Nat × β) := vs.zipIdx.map (fun p => (p.2, p.1))

/-- What is left of a state after the command word `w`. -/
def after {β : Type} (s : State) (w : Nat) (view : State → β) : Option β :=
  match step (s.withFetchWord 32 w) with
  | .next t => some (view t)
  | .fault _ => none
  | .refused _ => none

/-- The start state of V-EX-01 to V-EX-30. -/
def twoGroups : State :=
  { base with
    width := 8, height := 4, bufLen := 16,
    pb := cells [0x34, 0x12, 0x1F, 0xF8, 0x10, 0x84, 0xE7, 0x39, 0xFF, 0xFF, 0x00, 0x00, 0x22, 0x00, 0xFF, 0xFF] }

/-- The start state of V-BL-01. -/
def oneGroup : State :=
  { base with width := 4, height := 4, bufLen := 8, pb := cells [0x34, 0x12, 0x1F, 0xF8, 0x10, 0x84, 0xE7, 0x39] }

/-- The start state of V-BL-11. -/
def otherGroup : State :=
  { base with width := 4, height := 4, bufLen := 8, pb := cells [0x10, 0x84, 0xEF, 0x7B, 0x08, 0x42, 0x04, 0x21] }

/-- The start state of V-EN-02. -/
def image : State :=
  { base with imgW := 2, imgH := 1, destLen := 16, px := cells [0xFF1747A7, 0x00FFFFFF], pb := cells (List.replicate 16 0xAA) }

/-- The start state of V-LM-01, with the results the vectors put there. -/
def offsets : State :=
  { base with width := 16, height := 8, bufLen := 64, xOut := 3, yOut := 1, res0 := 0xAAAA, res1 := 0xBBBB }

/-- `STATUS` and the scalar results. -/
def scalarView (s : State) : Word × Word × Word × Word := (s.status, s.res0, s.res1, s.gidx)

/-- `STATUS`, the reported size, and the pixels written. -/
def rasterView (s : State) : List Word := [s.status, s.outW, s.outH, s.gidx] ++ s.px.map (fun p => p.2)

theorem test_nop : after { offsets with gidx := 9 } 0x00 scalarView = some (0x02, 0xAAAA, 0xBBBB, 0) := by decide
/-- V-RS-02. -/
theorem test_dec565_after_reset : after State.reset 0x01 scalarView = some (0x02, 0, 0, 0) := by decide
/-- V-CD-13. -/
theorem test_dec565 : after { base with opa := 0xABCD1234 } 0x01 scalarView = some (0x02, 0x001044A0, 0, 0) := by decide
/-- V-CD-34. -/
theorem test_enc565 : after { base with opa := 0xFF1747A7 } 0x02 scalarView = some (0x02, 0x1234, 0, 0) := by decide
/-- V-CD-32. -/
theorem test_enc565_drops : after { base with opa := 0x00C86432 } 0x02 scalarView = some (0x02, 0xCB26, 0, 0) := by decide
/-- V-CD-24. -/
theorem test_greyAvg : after { base with opa := 0x001747A7 } 0x03 scalarView = some (0x02, 87, 0, 0) := by decide
/-- V-CD-20. -/
theorem test_greyAvg_white : after { base with opa := 0x00FFFFFF } 0x03 scalarView = some (0x02, 255, 0, 0) := by decide
/-- V-CD-33, the tie. -/
theorem test_greyLum_tie : after { base with opa := 0x00000E4C } 0x04 scalarView = some (0x02, 16, 0, 0) := by decide
/-- V-CD-22. -/
theorem test_greyLum : after { base with opa := 0x00070307 } 0x04 scalarView = some (0x02, 4, 0, 0) := by decide
/-- V-LM-01. -/
theorem test_boff : after offsets 0x185 scalarView = some (0x02, 62, 7, 0) := by decide
/-- V-LM-02. -/
theorem test_boff_layout : after { offsets with bufLen := 63 } 0x185 scalarView = some (0x13, 0xAAAA, 0xBBBB, 0) := by
  decide
/-- V-EX-14. -/
theorem test_extract : after twoGroups 0x3206 rasterView = some [0x02, 2, 1, 2, 0x3B1044A0, 0xFBF8FCF8] := by
  decide
/-- V-EX-23. -/
theorem test_extract_own_slot :
    after twoGroups 0x0C86 rasterView = some [0x02, 2, 1, 2, 0x5AF800F8, 0xFF000000] := by decide
/-- V-BL-01 and V-BL-11, the seven strategies. -/
theorem test_blendLight : after oneGroup 0x07 rasterView = some [0x02, 1, 1, 1, 0xFF1044A0] := by decide
theorem test_blendLMask : after oneGroup 0x17 rasterView = some [0x02, 1, 1, 1, 0xFF808080] := by decide
theorem test_blendDark : after oneGroup 0x27 rasterView = some [0x02, 1, 1, 1, 0xFFF800F8] := by decide
theorem test_blendDMask : after oneGroup 0x37 rasterView = some [0x02, 1, 1, 1, 0xFF383C38] := by decide
theorem test_blendMComp : after oneGroup 0x47 rasterView = some [0x02, 1, 1, 1, 0xFF4334B3] := by decide
theorem test_blendMComp_other : after otherGroup 0x47 rasterView = some [0x02, 1, 1, 1, 0xFF7E7F7E] := by decide
theorem test_blendCAvg : after oneGroup 0x57 rasterView = some [0x02, 1, 1, 1, 0xFF8422CC] := by decide
theorem test_blendDmab : after oneGroup 0x67 rasterView = some [0x02, 1, 1, 1, 0xFFBA12E0] := by decide
theorem test_blendDmab_or : after otherGroup 0x67 rasterView = some [0x02, 1, 1, 1, 0xFF7C7E7C] := by decide
/-- V-EN-03. -/
theorem test_encode_zero :
    after { image with destLen := 19, pb := cells (List.replicate 20 0xAA) } 0x08 (fun s => (s.status, s.gidx, s.pb)) =
      some (0x02, 2, cells [0x34, 0x12, 0, 0, 0, 0, 0, 0, 0xFF, 0xFF, 0, 0, 0, 0, 0, 0, 0, 0, 0, 0xAA]) := by decide
/-- V-EN-02. -/
theorem test_encode_patch :
    after image 0x4008 (fun s => (s.status, s.gidx, s.pb)) =
      some (0x02, 2, cells [0x34, 0x12, 0xAA, 0xAA, 0xAA, 0xAA, 0xAA, 0xAA, 0xFF, 0xFF, 0xAA, 0xAA, 0xAA, 0xAA, 0xAA, 0xAA]) := by
  decide
/-- V-ER-01 to V-ER-07: which error comes first. -/
theorem test_error_order :
    after { base with width := 6 } 0x0306 State.status = some 0x23 ∧
    after { base with width := 6 } 0x0706 State.status = some 0x43 ∧
    after { base with width := 6, height := 4 } 0x0006 State.status = some 0x43 ∧
    after { base with width := 8, height := 4, bufLen := 5000 } 0x0586 State.status = some 0x23 ∧
    after { base with width := 400, height := 400, bufLen := 16 } 0x0006 State.status = some 0x43 ∧
    after { base with width := 16, height := 8, xOut := 9 } 0x0005 State.status = some 0x43 ∧
    after { base with imgW := 100, imgH := 100, destLen := 8 } 0x0008 State.status = some 0x43 := by decide
/-- V-EN-13: `P = 2^32` never wraps. -/
theorem test_encode_exact_product :
    after { base with imgW := 65536, imgH := 65536, destLen := 0xFFFFFFFF } 0x0008 State.status = some 0x43 := by decide

/-! ## States that meet the hypotheses of the statements

The theorem for a statement is named after it. A statement with several clauses has a state for each, at the boundary
of the clause where it has one. -/

theorem witness_LegalWords :
    (∀ i, decode 0x77 ≠ .ok i) ∧ ({ offsets with host := [.command 0x77, .wait] } : State).busy = false := by
  refine ⟨fun i h => ?_, by decide⟩
  have e : decode 0x77 = .error .reservedStrat := by decide
  rw [e] at h
  cases h

theorem witness_OpcodeRows :
    decode 0x00003786 ≠ .ok .nop ∧ (opcodeRow (.extract .light .none .unspecified .averaged)).selects 0x00003786 = true ∧
    decode 0x00001286 = .ok (.extract .dark .alpha .dark .averaged) ∧
    (opcodeRow (.extract .light .none .unspecified .averaged)).selects 0x00001286 = true ∧
    (opcodeRow .blendDmab).selects 0x00000067 = true := by decide

theorem witness_LuminosityMonotone : ∃ c d : Rgb,
    c.r.toNat ≤ d.r.toNat ∧ c.g.toNat ≤ d.g.toNat ∧ c.b.toNat ≤ d.b.toNat ∧ c ≠ d :=
  ⟨⟨7, 3, 7⟩, ⟨8, 3, 255⟩, by decide⟩

theorem witness_GroupIndex : 3 < 4 ∧ 1 < 2 ∧ groupIndex 4 3 1 < 4 * 2 := by decide

/-- V-LM-01 ends exactly at the buffer's end. -/
theorem witness_BoffGives :
    let s := started 0x185 offsets
    s.lat.width.toNat % 4 = 0 ∧ s.lat.height.toNat % 4 = 0 ∧ s.lat.bufLen.toNat ≤ s.caps.pb.val ∧
    s.lat.xOut.toNat < s.lat.width.toNat / 4 ∧ s.lat.yOut.toNat < s.lat.height.toNat / 4 ∧
    8 * (s.lat.yOut.toNat * (s.lat.width.toNat / 4) + s.lat.xOut.toNat) + 2 * (channelCode .darkMask).toNat + 2
      = s.lat.bufLen.toNat := by decide

/-- V-LM-08 (and its height), V-LM-09 at the boundary, V-LM-04, V-LM-05. -/
theorem witness_BoffErrors_param :
    (started 5 { offsets with width := 6 }).lat.width.toNat % 4 ≠ 0 ∧
    (started 5 { offsets with height := 6 }).lat.height.toNat % 4 ≠ 0 ∧
    (started 5 { offsets with bufLen := 4097 }).lat.bufLen.toNat > offsets.caps.pb.val ∧
    (started 5 { offsets with xOut := 4 }).lat.xOut.toNat ≥ offsets.width.toNat / 4 ∧
    (started 5 { offsets with yOut := 2 }).lat.yOut.toNat ≥ offsets.height.toNat / 4 := by decide

/-- V-LM-02. -/
theorem witness_BoffErrors_layout :
    let s := started 0x185 { offsets with bufLen := 63 }
    s.lat.width.toNat % 4 = 0 ∧ s.lat.height.toNat % 4 = 0 ∧ s.lat.bufLen.toNat ≤ s.caps.pb.val ∧
    s.lat.xOut.toNat < s.lat.width.toNat / 4 ∧ s.lat.yOut.toNat < s.lat.height.toNat / 4 ∧
    8 * (s.lat.yOut.toNat * (s.lat.width.toNat / 4) + s.lat.xOut.toNat) + 2 * (channelCode .darkMask).toNat + 2
      > s.lat.bufLen.toNat := by decide

/-- Two groups (V-EX-31 ends exactly at `BUFLEN`), the largest raster of V-EX-40, and the empty one of V-EX-35. -/
theorem witness_RasterReady :
    RasterReady (started 0x3206 twoGroups) ∧
    RasterReady (started 0x06 { base with width := 128, height := 64, bufLen := 4096 }) ∧
    RasterReady (started 0x67 { base with height := 4 }) := by decide

theorem witness_ExtractLeaves_unmasked : (MaskKind.none = .none ∨ Channel.lightMask = .light ∨ Channel.lightMask = .dark) ∧
    RasterReady (started 0x0106 twoGroups) := by decide
theorem witness_ExtractLeaves_masked : (MaskKind.alpha = .none ∨ Channel.dark = .light ∨ Channel.dark = .dark) ∧
    RasterReady (started 0x0286 twoGroups) := by decide

/-- V-EX-30. -/
theorem witness_ExtractErrors_configuration :
    MaskKind.alpha ≠ .none ∧ (Channel.lightMask = .lightMask ∨ Channel.lightMask = .darkMask) := by decide

/-- V-EX-37, V-EX-38, and `BUFLEN` and `N` one past the capacities. -/
theorem witness_RasterErrors_param :
    (started 6 { twoGroups with width := 6 }).lat.width.toNat % 4 ≠ 0 ∧
    (started 6 { twoGroups with height := 5 }).lat.height.toNat % 4 ≠ 0 ∧
    (started 6 { twoGroups with bufLen := 4097 }).lat.bufLen.toNat > twoGroups.caps.pb.val ∧
    (let s := started 6 { base with width := 4, height := 2052, bufLen := 4096 }
     s.lat.width.toNat / 4 * (s.lat.height.toNat / 4) = s.caps.px.val + 1) := by decide

/-- V-EX-32. -/
theorem witness_RasterErrors_layout :
    let s := started 6 { twoGroups with bufLen := 15 }
    s.lat.width.toNat % 4 = 0 ∧ s.lat.height.toNat % 4 = 0 ∧ s.lat.bufLen.toNat ≤ s.caps.pb.val ∧
    s.lat.width.toNat / 4 * (s.lat.height.toNat / 4) ≤ s.caps.px.val ∧
    s.lat.bufLen.toNat < 8 * (s.lat.width.toNat / 4 * (s.lat.height.toNat / 4)) := by decide

/-- The boundary of `MaskFieldsIdle`'s second clause (V-EC-11). -/
theorem witness_MaskFieldsIdle : (0x1806#32).toNat % 16 = 6 ∧ (0x1806#32).toNat / 2048 % 4 = 3 := by decide

/-- PB of `twoGroups` with another LightMask word in group 0. -/
theorem witness_MaskedCompositeIgnores :
    ∀ a, a % 8 ≠ 4 → a % 8 ≠ 5 →
      pbByte (Memory.store (Memory.store twoGroups.pb 4 0x77) 5 0x88) a = pbByte twoGroups.pb a := by
  intro a h4 h5
  rw [pbByte_store, pbByte_store, if_neg (by omega), if_neg (by omega)]

/-- PB of `twoGroups` with another byte in the first place past its `8N = 16`. -/
theorem witness_RasterReadsOnly :
    .blendLight ∈ blends ∧
    ∀ a, a < 8 * ((started 7 twoGroups).lat.width.toNat / 4 * ((started 7 twoGroups).lat.height.toNat / 4)) →
      pbByte (Memory.store twoGroups.pb 16 0x77) a = pbByte twoGroups.pb a := by
  refine ⟨by decide, fun a h => ?_⟩
  have h16 : a < 16 := h
  rw [pbByte_store, if_neg (by omega)]

/-- V-EN-01 ends exactly at `DESTLEN`; V-EN-07 has no pixel. -/
theorem witness_EncodeReady :
    EncodeReady (started 8 image) ∧ EncodeReady (started 0x4008 { image with imgW := 0, imgH := 5, destLen := 4 }) := by
  decide

/-- One pixel and one byte past the capacities. -/
theorem witness_EncodeErrors_param :
    (let s := started 8 { image with imgW := 27, imgH := 19 }
     s.lat.imgW.toNat * s.lat.imgH.toNat = s.caps.px.val + 1) ∧
    (started 8 { image with destLen := 4097 }).lat.destLen.toNat > image.caps.pb.val := by decide

/-- V-EN-05. -/
theorem witness_EncodeErrors_size :
    let s := started 8 { image with destLen := 15 }
    s.lat.imgW.toNat * s.lat.imgH.toNat ≤ s.caps.px.val ∧ s.lat.destLen.toNat ≤ s.caps.pb.val ∧
    8 * (s.lat.imgW.toNat * s.lat.imgH.toNat) > s.lat.destLen.toNat := by decide

/-- What `ENCODE` leaves of the two-pixel image (V-EN-01 and V-EN-02). -/
def encoded (f : FillMode) : State := encodeDone f (started (encode (.encode f)) image)

/-- The reading state of the round trip: `setdims 8, 4, 16` after that `ENCODE`. -/
def readBack (f : FillMode) : State :=
  { started 6 { base with width := 8, height := 4, bufLen := 16 } with pb := (encoded f).pb }

/-- The hypotheses of the round trip, in the fill mode `f`. -/
abbrev ReadsBack (f : FillMode) : Prop :=
  let s := started (encode (.encode f)) image
  EncodeReady s ∧ exec (.encode f) s = .next (encoded f) ∧ (readBack f).pb = (encoded f).pb ∧
    (readBack f).caps = s.caps ∧ (readBack f).lat.width.toNat = 4 * s.lat.imgW.toNat ∧
    (readBack f).lat.height.toNat = 4 * s.lat.imgH.toNat ∧
    8 * (s.lat.imgW.toNat * s.lat.imgH.toNat) ≤ (readBack f).lat.bufLen.toNat ∧
    (readBack f).lat.bufLen.toNat ≤ s.lat.destLen.toNat

theorem witness_EncodedImageReadsBack_zeroFill : ReadsBack .zeroFill :=
  ⟨by decide, rfl, rfl, rfl, by decide, by decide, by decide, by decide⟩

theorem witness_EncodedImageReadsBack_patch : ReadsBack .patch :=
  ⟨by decide, rfl, rfl, rfl, by decide, by decide, by decide, by decide⟩

/-- Every operation answers a next state: the hypothesis of the frame statements. -/
theorem witness_Frames : ∃ t, exec (.extract .light .alpha .dark .luminosity) (started 0x3206 twoGroups) = .next t :=
  ⟨_, rfl⟩

/-- Two states alike in latch, capacities and memories, unlike in every result register and in a parameter. -/
theorem witness_OutcomeDepends :
    let s := started 6 twoGroups
    let t := { started 6 twoGroups with res0 := 1, res1 := 2, outW := 3, outH := 4, width := 5 }
    s.lat = t.lat ∧ s.caps = t.caps ∧ (∀ a, pbByte s.pb a = pbByte t.pb a) ∧ (∀ n, pxWord s.px n = pxWord t.px n) ∧
      s ≠ t := ⟨rfl, rfl, fun _ => rfl, fun _ => rfl, by decide⟩

theorem witness_StepRuns :
    ({ twoGroups with host := [.command 0x3206] } : State).busy = false ∧
    decode 0x3206 = .ok (.extract .light .alpha .dark .luminosity) ∧
    twoGroups.busy = false ∧ decodeTableWord 32 0x3206 = some (.extract .light .alpha .dark .luminosity) := by decide

theorem witness_CmdWrite : ({ twoGroups with host := [.writeReg 0 4 0x3206] } : State).busy = false := by decide

/-! States of a running command. -/

/-- `BLEND.DMAB` on two groups in phase RUN, `g` groups done. -/
def running (g : Word) : State := { started 0x67 twoGroups with phase := .run, gidx := g }

/-- `ENCODE` in phase RUN, `g` pixels done. -/
def encoding (g : Word) : State := { started 0x08 image with phase := .run, gidx := g }

/-- `ENCODE` in phase FILL. -/
def filling : State := { started 0x08 image with phase := .fill }

/-- A state in phase RUN is well-kept when the facts `State.Inv` asks of it hold. -/
theorem inv_of_run (s : State) (i : Instr)
    (h : Memory.wf s.caps.pb.val s.pb ∧ Memory.wf s.caps.px.val s.px ∧ s.status = statusBusy ∧ s.phase = .run ∧
      s.lat = s.latchNow ∧ decode s.lat.cmd = .ok i ∧ operationCheck i s = none ∧
      (operationWork i s).isLoop = true ∧ s.gidx.toNat ≤ workCount s.lat (operationWork i s)) : s.Inv := by
  obtain ⟨hpb, hpx, hst, hp, hl, hd, hc, hw, hg⟩ := h
  have hb : s.busy = true := by simp only [State.busy, hst]; decide
  exact ⟨hpb, hpx, by rw [hst]; decide, ⟨fun _ => by simp [hp], fun _ => hb⟩, fun _ => hl,
    fun h => absurd (hst.symm.trans h) (by decide), fun h => absurd h (by rw [hst]; decide),
    fun h => by simp [hp] at h, fun h => by simp [hp] at h, fun _ => ⟨i, hd, hc, hw, hg⟩⟩

theorem witness_Busy :
    ({ running 1 with host := [.writeReg 0x08 4 4] } : State).busy = true ∧
    ({ running 1 with host := [.command 0] } : State).busy = true ∧
    ({ running 1 with host := [.readReg 0x3C 4] } : State).busy = true ∧ 0x08 % 4 = 0 ∧ 0x3C % 4 = 0 := by decide

theorem witness_RegisterReads :
    ({ twoGroups with host := [.readReg 0x3C 4] } : State).host = .readReg 0x3C 4 :: [] ∧ 0x3C % 4 = 0 ∧
    ({ twoGroups with host := [.readReg 0x40 4] } : State).host = .readReg 0x40 4 :: [] ∧ 0x40 % 4 = 0 := by decide

/-- The last parameter register, the first read-only one after it, and the first offset past the map. -/
theorem witness_RegisterWrites :
    ({ twoGroups with host := [.writeReg 0x28 4 7] } : State).busy = false ∧ 0x28 % 4 = 0 ∧
    ({ twoGroups with host := [.writeReg 0x2C 4 7] } : State).busy = false ∧ 0x2C % 4 = 0 ∧
    ({ twoGroups with host := [.writeReg 0x40 4 7] } : State).busy = false ∧ 0x40 % 4 = 0 := by decide

/-- The last index and the first one past it, in both memories. -/
theorem witness_Ports :
    twoGroups.busy = false ∧ 4095 < twoGroups.caps.pb.val ∧ 4096 ≥ twoGroups.caps.pb.val ∧
    511 < twoGroups.caps.px.val ∧ 512 ≥ twoGroups.caps.px.val ∧
    ({ twoGroups with host := [.writePB 4095 1] } : State).host = .writePB 4095 1 :: [] ∧
    ({ twoGroups with host := [.readPB 4096] } : State).host = .readPB 4096 :: [] ∧
    ({ twoGroups with host := [.writePX 511 1] } : State).host = .writePX 511 1 :: [] ∧
    ({ twoGroups with host := [.readPX 512] } : State).host = .readPX 512 :: [] := by decide

theorem witness_Forbidden :
    2 ≠ 4 ∧ 6 % 4 ≠ 0 ∧ ({ twoGroups with host := [.readReg 6 4] } : State).host = .readReg 6 4 :: [] ∧
    ({ twoGroups with host := [.writeReg 4 2 0] } : State).host = .writeReg 4 2 0 :: [] ∧
    ({ running 1 with host := [.readPB 0] } : State).busy = true ∧
    ({ running 1 with host := [.writePX 0 0] } : State).busy = true := by decide

/-- Reset at rest, in a reading operation, and in `ENCODE`. -/
theorem witness_ResetEvent :
    ({ twoGroups with host := [.reset] } : State).busy = false ∧
    (∀ f, decode (running 1).lat.cmd ≠ .ok (.encode f)) ∧ (running 1).busy = true ∧
    (∃ f, decode (encoding 1).lat.cmd = .ok (.encode f)) ∧ (encoding 1).busy = true := by
  refine ⟨by decide, fun f h => ?_, by decide, ⟨.zeroFill, by decide⟩, by decide⟩
  have e : decode (running 1).lat.cmd = .ok .blendDmab := by decide
  rw [e] at h
  cases h

/-- Reset in phase CHECK of commands without an output range: a `NOP`, an illegal word, and an `EXTRACT` whose buffer
is too short. -/
theorem witness_ResetEvent_no_output :
    (started 0x00 twoGroups).busy = true ∧ decode (started 0x00 twoGroups).lat.cmd = .ok .nop ∧ .nop ∉ blends ∧
    (started 0x77 twoGroups).busy = true ∧ decode (started 0x77 twoGroups).lat.cmd = .error .reservedStrat ∧
    (started 0x06 { twoGroups with bufLen := 15 }).busy = true ∧
    decode (started 0x06 { twoGroups with bufLen := 15 }).lat.cmd =
      .ok (.extract .light .none .unspecified .averaged) ∧
    operationCheck (.extract .light .none .unspecified .averaged) (started 0x06 { twoGroups with bufLen := 15 }) ≠
      none := by decide

theorem witness_Fill : filling.host = [] ∧ filling.phase = .fill := by decide

/-- The first and the last group of a reading operation and of `ENCODE`. -/
theorem witness_PixelStep :
    (running 0).Inv ∧ (running 1).Inv ∧ (running 1).host = [] ∧ (running 1).phase = .run ∧
    decode (running 1).lat.cmd = .ok .blendDmab ∧
    (running 1).gidx.toNat < workCount (running 1).lat (operationWork .blendDmab (running 1)) ∧
    (encoding 1).Inv ∧ (encoding 1).host = [] ∧ (encoding 1).phase = .run ∧
    decode (encoding 1).lat.cmd = .ok (.encode .zeroFill) ∧
    (encoding 1).gidx.toNat < workCount (encoding 1).lat (operationWork (.encode .zeroFill) (encoding 1)) :=
  ⟨inv_of_run (running 0) .blendDmab (by decide), inv_of_run (running 1) .blendDmab (by decide), by decide, by decide, by decide, by decide,
    inv_of_run (encoding 1) (.encode .zeroFill) (by decide), by decide, by decide, by decide, by decide⟩

theorem witness_Finish :
    (running 2).Inv ∧ (running 2).host = [] ∧ (running 2).phase = .run ∧
    decode (running 2).lat.cmd = .ok .blendDmab ∧
    (running 2).gidx.toNat = workCount (running 2).lat (operationWork .blendDmab (running 2)) ∧
    (encoding 2).Inv ∧ decode (encoding 2).lat.cmd = .ok (.encode .zeroFill) ∧
    (encoding 2).gidx.toNat = workCount (encoding 2).lat (operationWork (.encode .zeroFill) (encoding 2)) :=
  ⟨inv_of_run (running 2) .blendDmab (by decide), by decide, by decide, by decide, by decide, inv_of_run (encoding 2) (.encode .zeroFill) (by decide), by decide,
    by decide⟩

theorem witness_Check : (started 0x67 twoGroups).host = [] ∧ (started 0x67 twoGroups).phase = .check := by decide

theorem witness_GroupCounter :
    (running 1).Inv ∧ (running 1).busy = true ∧ ∃ t, step (running 1) = .next t ∧ t.busy = true ∧ t.phase = .run ∧
      decode t.lat.cmd = .ok .blendDmab :=
  ⟨inv_of_run (running 1) .blendDmab (by decide), by decide, _, rfl, by decide, by decide, by decide⟩

theorem witness_MicroSteps : twoGroups.busy = false := by decide

theorem witness_EveryStepKeeps : (encoding 1).Inv ∧ ∃ t, step (encoding 1) = .next t :=
  ⟨inv_of_run (encoding 1) (.encode .zeroFill) (by decide), _, rfl⟩

/-- `STATUS` going from BUSY to DONE. -/
theorem witness_StatusMoves :
    (running 2).Inv ∧ ∃ t, step (running 2) = .next t ∧ (running 2).busy = true ∧ statusState t.status = .done :=
  ⟨inv_of_run (running 2) .blendDmab (by decide), _, rfl, by decide, by decide⟩

end Sys2Proof.Tests
end

