-- ==== Sys2Proof/Proofs/Scope.lean ====
section
/-! The host's command action, and the step that takes it (R8, R65, R240). -/

namespace Sys2Proof.Machine

/-- R240: `startCommand` leaves the state `started` writes out. -/
theorem startCommand_eq_started (w : Word) (s : State) : startCommand w s = started w s := rfl

/-- R204 (a): a legal word runs its operation. -/
theorem runCommand_of_decode_ok {w : Word} {i : Instr} (h : decode w = .ok i) (s : State) :
    runCommand w s = exec i s := by
  simp only [runCommand, h]

/-- R42: only a block that runs no command takes one, from the state START leaves. -/
theorem hostCommand_of_idle {s : State} (h : s.busy = false) (w : Word) :
    hostCommand w s = runCommand w (startCommand w s) := by
  simp only [hostCommand, h, Bool.false_eq_true, if_false]

/-- R65: whatever its word, a command that finds the block idle runs whole in the step that takes it. -/
theorem step_command_of_idle {s : State} {w : Word} {rest : List HostAction} (hidle : s.busy = false)
    (hhost : s.host = .command w :: rest) : step s = runCommand w (startCommand w { s with host := rest }) := by
  have hidle' : ({ s with host := rest } : State).busy = false := hidle
  calc step s = hostCommand w { s with host := rest } := step_cons s (.command w) rest hhost
    _ = runCommand w (startCommand w { s with host := rest }) := hostCommand_of_idle hidle' w

/-- A table word reads as an operation exactly when the command word of its low bits is legal. -/
theorem decodeTableWord_eq_some_iff {nbits w : Nat} {i : Instr} :
    decodeTableWord nbits w = some i ↔ decode (BitVec.ofNat 32 (w % 2 ^ nbits)) = .ok i := by
  unfold decodeTableWord
  cases decode (BitVec.ofNat 32 (w % 2 ^ nbits)) with
  | ok j => simp
  | error e => simp

/-- An idle block gets the fetch word as its host's next action, and nothing else changes (log entry 1). -/
theorem withFetchWord_of_idle {s : State} (h : s.busy = false) (nbits w : Nat) :
    s.withFetchWord nbits w = { s with host := .command (BitVec.ofNat 32 (w % 2 ^ nbits)) :: s.host } := by
  simp only [State.withFetchWord, withCommandWord, settled, h, Bool.false_eq_true, if_false]

/-- R8: a legal command that finds the block idle is its operation, from the state START leaves. -/
theorem step_command_of_decode_ok {s : State} {w : Word} {i : Instr} {rest : List HostAction}
    (hidle : s.busy = false) (hhost : s.host = .command w :: rest) (hdec : decode w = .ok i) :
    step s = exec i (started w { s with host := rest }) := by
  rw [step_command_of_idle hidle hhost, runCommand_of_decode_ok hdec, startCommand_eq_started]

/-- Settles O41: the second clause is the first one at the queued word, whose tail is the host list of `s` itself. -/
theorem stepRunsTheDecodedOperation : Obligations.StepRunsTheDecodedOperation := by
  unfold Obligations.StepRunsTheDecodedOperation
  constructor
  · intro s w i rest hidle hhost hdec
    exact step_command_of_decode_ok hidle hhost hdec
  · intro s nbits w i hidle htable
    rw [withFetchWord_of_idle hidle]
    exact step_command_of_decode_ok hidle rfl (decodeTableWord_eq_some_iff.mp htable)

end Sys2Proof.Machine
end

/-! The state of the block (spec/10_state.md): what a step can do, said once; that every step keeps the invariant;
what an operation writes and what its outcome depends on; the register space; reset. -/

namespace Sys2Proof.Machine

/-! ## The values of `STATUS` -/

@[simp] theorem statusState_busy : statusState statusBusy = .busy := by decide
@[simp] theorem statusState_done : statusState statusDone = .done := by decide

@[simp] theorem statusState_error (e : ErrorClass) : statusState (statusError e) = .error := by
  cases e <;> decide

theorem statusBusy_ne_zero : statusBusy ≠ 0 := by decide
theorem statusDone_ne_zero : statusDone ≠ 0 := by decide
theorem statusError_ne_zero (e : ErrorClass) : statusError e ≠ 0 := by cases e <;> decide

/-- R23: `STATUS` is IDLE, BUSY, DONE or an error. -/
theorem statusLegal_iff (w : Word) :
    statusLegal w = true ↔ w = 0 ∨ w = statusBusy ∨ w = statusDone ∨ ∃ e, w = statusError e := by
  constructor
  · intro h
    have hmem : w ∈ [0#32, statusBusy, statusDone, statusError .layout, statusError .configuration,
        statusError .size, statusError .param] := List.contains_iff_mem.mp h
    simp only [List.mem_cons, List.not_mem_nil, or_false] at hmem
    rcases hmem with h | h | h | h | h | h | h
    · exact .inl h
    · exact .inr (.inl h)
    · exact .inr (.inr (.inl h))
    all_goals exact .inr (.inr (.inr ⟨_, h⟩))
  · rintro (rfl | rfl | rfl | ⟨e, rfl⟩)
    · decide
    · decide
    · decide
    · cases e <;> decide

/-- R23: `ERR` is not 0 exactly in the state ERROR. -/
theorem statusErr_ne_zero_iff {w : Word} (h : statusLegal w = true) :
    statusErr w ≠ 0 ↔ statusState w = .error := by
  rcases (statusLegal_iff w).mp h with rfl | rfl | rfl | ⟨e, rfl⟩
  · decide
  · decide
  · decide
  · cases e <;> decide

/-- R23: of the legal values only BUSY says that a command runs. -/
theorem eq_statusBusy {w : Word} (h : statusLegal w = true) (hbusy : statusState w = .busy) : w = statusBusy := by
  rcases (statusLegal_iff w).mp h with rfl | rfl | rfl | ⟨e, rfl⟩
  · exact absurd hbusy (by decide)
  · rfl
  · simp at hbusy
  · simp at hbusy

theorem busy_iff (s : State) : s.busy = true ↔ statusState s.status = .busy := by simp [State.busy]

theorem busy_eq_false_iff (s : State) : s.busy = false ↔ statusState s.status ≠ .busy := by simp [State.busy]

/-! ## What an operation checks and what it does -/

/-- R241: an operation writes its results at once, or is a raster operation, or is `ENCODE`. -/
theorem operationWork_cases (i : Instr) (s : State) :
    (∃ r0 r1, operationWork i s = .atOnce (finishDone 0 { s with res0 := r0, res1 := r1 })) ∨
      (∃ p, operationWork i s = .raster p ∧ (operationCheck i s = none → rasterCheck s = none)) ∨
      ∃ f, i = .encode f := by
  cases i with
  | nop | dec565 | enc565 | greyAvg | greyLum | boff c => exact .inl ⟨_, _, rfl⟩
  | blendLight | blendLMask | blendDark | blendDMask | blendMComp | blendCAvg | blendDmab =>
    exact .inr (.inl ⟨_, rfl, id⟩)
  | extract c k q g =>
    refine .inr (.inl ⟨_, rfl, fun h => ?_⟩)
    simp only [operationCheck, extractCheck] at h
    split_ifs at h
    exact h
  | encode f => exact .inr (.inr ⟨f, rfl⟩)

/-- Whether an operation counts groups does not depend on the state it starts in (R32). -/
theorem isLoop_operationWork_congr (i : Instr) (s t : State) :
    (operationWork i s).isLoop = (operationWork i t).isLoop := by
  cases i <;> rfl

/-- The count of an operation depends on the latch only (R32). -/
theorem workCount_operationWork_congr (l : Latch) (i : Instr) (s t : State) :
    workCount l (operationWork i s) = workCount l (operationWork i t) := by
  cases i <;> rfl

/-- R9: the count of a command that has passed its checks is inside a capacity, so `GIDX` holds it. -/
theorem workCount_lt {i : Instr} {s : State} (hcheck : operationCheck i s = none) :
    workCount s.lat (operationWork i s) < 2 ^ 32 := by
  have hpx := s.caps.px.isLt
  rcases operationWork_cases i s with ⟨r0, r1, hw⟩ | ⟨p, hw, hraster⟩ | ⟨f, rfl⟩
  · simp [hw, workCount]
  · obtain ⟨-, -, -, hgroups, -⟩ := rasterCheck_eq_none (hraster hcheck)
    simp only [hw, workCount]
    omega
  · obtain ⟨hpixels, -, -⟩ := encodeCheck_eq_none hcheck
    simp only [operationWork, workCount]
    omega

/-- R211: an operation enters its first error or makes its effect. -/
theorem exec_cases {i : Instr} {s t : State} (h : exec i s = .next t) :
    (∃ e, operationCheck i s = some e ∧ t = raiseError e s) ∨ (operationCheck i s = none ∧ t = wholeEffect i s) := by
  rw [exec_eq_conclude] at h
  cases h
  exact conclude_cases _ _ _

/-- The whole effect of an operation, by the kind of its work (R105, R126, R135, R150, R180, R195). -/
theorem wholeEffect_cases (i : Instr) (s : State) :
    (∃ r0 r1, wholeEffect i s = finishDone 0 { s with res0 := r0, res1 := r1 }) ∨
      (∃ p, wholeEffect i s = rasterDone p s ∧ (operationCheck i s = none → rasterCheck s = none)) ∨
      ∃ f, i = .encode f ∧ wholeEffect i s = encodeDone f s := by
  rcases operationWork_cases i s with ⟨r0, r1, hw⟩ | ⟨p, hw, hraster⟩ | ⟨f, rfl⟩
  · exact .inl ⟨r0, r1, by rw [wholeEffect, hw]⟩
  · exact .inr (.inl ⟨p, by rw [wholeEffect, hw], hraster⟩)
  · exact .inr (.inr ⟨f, rfl, rfl⟩)

/-- The memories an operation leaves are in canonical form (R35, R36, R57). -/
theorem wf_wholeEffect {i : Instr} {s : State} (hcheck : operationCheck i s = none)
    (hpb : Memory.wf s.caps.pb.val s.pb) (hpx : Memory.wf s.caps.px.val s.px) :
    Memory.wf s.caps.pb.val (wholeEffect i s).pb ∧ Memory.wf s.caps.px.val (wholeEffect i s).px := by
  rcases wholeEffect_cases i s with ⟨r0, r1, he⟩ | ⟨p, he, hraster⟩ | ⟨f, rfl, he⟩
  · rw [he]
    exact ⟨hpb, hpx⟩
  · obtain ⟨-, -, -, hgroups, -⟩ := rasterCheck_eq_none (hraster hcheck)
    rw [he]
    exact ⟨hpb, Memory.wf_storeRange hpx _ hgroups⟩
  · obtain ⟨-, hdest, hlen⟩ := encodeCheck_eq_none hcheck
    rw [he]
    exact ⟨wf_encodePixels (wf_background hpb f hdest) _ (by omega), hpx⟩

/-- A whole effect ends its command in DONE (R244). -/
theorem wholeEffect_ends (i : Instr) (s : State) :
    (wholeEffect i s).status = statusDone ∧ (wholeEffect i s).phase = .rest ∧ (wholeEffect i s).caps = s.caps := by
  rcases wholeEffect_cases i s with ⟨r0, r1, he⟩ | ⟨p, he, -⟩ | ⟨f, -, he⟩ <;> rw [he] <;> exact ⟨rfl, rfl, rfl⟩

/-! ## Two ways to be well-kept -/

/-- The invariant of a state at rest: what it asks of a running command is empty there. -/
theorem inv_of_rest {s : State} (hphase : s.phase = .rest) (hidle : s.busy = false)
    (hpb : Memory.wf s.caps.pb.val s.pb) (hpx : Memory.wf s.caps.px.val s.px) (hlegal : statusLegal s.status = true)
    (hblank : s.status = 0 →
      s.cmd = 0 ∧ s.res0 = 0 ∧ s.res1 = 0 ∧ s.outW = 0 ∧ s.outH = 0 ∧ s.gidx = 0 ∧ s.lat = Latch.zero)
    (herror : statusState s.status = .error → s.gidx = 0) : s.Inv where
  pbForm := hpb
  pxForm := hpx
  statusForm := hlegal
  busyPhase := by simp [hphase, hidle]
  latched h := absurd hphase h
  idleBlank := hblank
  errorIndex := herror
  startIndex h := by simp [hphase] at h
  fillWork h := by simp [hphase] at h
  runWork h := by simp [hphase] at h

/-- The invariant of a state whose command has ended well. -/
theorem inv_of_done {s : State} (hstatus : s.status = statusDone) (hphase : s.phase = .rest)
    (hpb : Memory.wf s.caps.pb.val s.pb) (hpx : Memory.wf s.caps.px.val s.px) : s.Inv :=
  inv_of_rest hphase ((busy_eq_false_iff s).mpr (by simp [hstatus])) hpb hpx
    ((statusLegal_iff _).mpr (by simp [hstatus])) (fun h => absurd (hstatus ▸ h) statusDone_ne_zero)
    (fun h => by simp [hstatus] at h)

/-- The invariant after an error entry (R206). -/
theorem inv_raiseError {s : State} (e : ErrorClass) (hpb : Memory.wf s.caps.pb.val s.pb)
    (hpx : Memory.wf s.caps.px.val s.px) : (raiseError e s).Inv :=
  inv_of_rest rfl ((busy_eq_false_iff _).mpr (by simp)) hpb hpx
    ((statusLegal_iff _).mpr (.inr (.inr (.inr ⟨e, rfl⟩)))) (fun h => absurd h (statusError_ne_zero e)) (fun _ => rfl)

/-- The invariant of a running command: `STATUS` is BUSY, so what it asks of a block at rest is empty. -/
theorem inv_of_running {s : State} (hstatus : s.status = statusBusy) (hphase : s.phase ≠ .rest)
    (hpb : Memory.wf s.caps.pb.val s.pb) (hpx : Memory.wf s.caps.px.val s.px) (hlat : s.lat = s.latchNow)
    (hstart : s.phase = .check ∨ s.phase = .fill → s.gidx = 0)
    (hfill : s.phase = .fill → decode s.lat.cmd = .ok (.encode .zeroFill) ∧ encodeCheck s = none)
    (hrun : s.phase = .run → ∃ i, decode s.lat.cmd = .ok i ∧ operationCheck i s = none ∧
      (operationWork i s).isLoop = true ∧ s.gidx.toNat ≤ workCount s.lat (operationWork i s)) : s.Inv where
  pbForm := hpb
  pxForm := hpx
  statusForm := (statusLegal_iff _).mpr (.inr (.inl hstatus))
  busyPhase := by simp [busy_iff, hstatus, hphase]
  latched _ := hlat
  idleBlank h := absurd (hstatus ▸ h) statusBusy_ne_zero
  errorIndex h := by simp [hstatus] at h
  startIndex := hstart
  fillWork := hfill
  runWork := hrun

/-- R32: a running command says BUSY. -/
theorem State.Inv.status_eq_busy {s : State} (hs : s.Inv) (hphase : s.phase ≠ .rest) : s.status = statusBusy :=
  eq_statusBusy hs.statusForm ((busy_iff s).mp (hs.busyPhase.mpr hphase))

/-- R32: a block that runs no command rests. -/
theorem State.Inv.phase_eq_rest {s : State} (hs : s.Inv) (hidle : s.busy = false) : s.phase = .rest := by
  by_contra hphase
  exact absurd (hs.busyPhase.mpr hphase) (by simp [hidle])

/-! ## The block's micro-step -/

/-- What a micro-step can do to a well-kept state (R241 to R244). -/
inductive BlockMove (s : State) : State → Prop where
  /-- R218: at rest nothing moves. -/
  | still : s.phase = .rest → BlockMove s s
  /-- CHECK has failed. -/
  | fail (e : ErrorClass) : s.phase ≠ .rest → BlockMove s (raiseError e s)
  /-- CHECK of an operation without a loop, or FINISH. -/
  | finish (r0 r1 w h g : Word) : s.phase ≠ .rest →
      BlockMove s { s with
        res0 := r0, res1 := r1, outW := w, outH := h, gidx := g, status := statusDone, phase := .rest }
  /-- CHECK has passed and the loop begins. -/
  | enterRun (i : Instr) : s.phase = .check → decode s.lat.cmd = .ok i → operationCheck i s = none →
      (operationWork i s).isLoop = true → BlockMove s { s with phase := .run }
  /-- CHECK of an `ENCODE` with ZeroFill has passed. -/
  | enterFill : s.phase = .check → decode s.lat.cmd = .ok (.encode .zeroFill) → encodeCheck s = none →
      BlockMove s { s with phase := .fill }
  /-- FILL. -/
  | fill : s.phase = .fill → decode s.lat.cmd = .ok (.encode .zeroFill) → encodeCheck s = none →
      BlockMove s (fillStep s)
  /-- PIXEL of the next group. -/
  | pixel (i : Instr) : s.phase = .run → decode s.lat.cmd = .ok i → operationCheck i s = none →
      (operationWork i s).isLoop = true → s.gidx.toNat < workCount s.lat (operationWork i s) →
      BlockMove s (pixelStep s s.gidx.toNat (operationWork i s))

/-- R241: CHECK fails, ends the command, or begins its loop. -/
theorem checkStep_moves {s : State} (hphase : s.phase = .check) : BlockMove s (checkStep s) := by
  have hrest : s.phase ≠ .rest := by simp [hphase]
  unfold checkStep
  split
  next => exact .fail .param hrest
  next i hdec =>
    rcases conclude_cases (operationCheck i s) (fun s => beginWork s (operationWork i s)) s with
      ⟨e, -, he⟩ | ⟨hcheck, he⟩ <;> rw [he]
    · exact .fail e hrest
    · rcases operationWork_cases i s with ⟨r0, r1, hw⟩ | ⟨p, hw, -⟩ | ⟨f, rfl⟩
      · rw [hw]
        exact .finish r0 r1 s.outW s.outH 0 hrest
      · have hmove := BlockMove.enterRun i hphase hdec hcheck (by rw [hw]; rfl)
        rw [hw]
        exact hmove
      · cases f with
        | zeroFill => exact .enterFill hphase hdec hcheck
        | patch => exact .enterRun (.encode .patch) hphase hdec hcheck rfl

/-- FINISH ends the command (R244). -/
theorem finishStep_moves {s : State} (hphase : s.phase ≠ .rest) (w : Work) : BlockMove s (finishStep s w) := by
  cases w with
  | atOnce | encoder => exact .finish s.res0 s.res1 s.outW s.outH s.gidx hphase
  | raster =>
    exact .finish s.res0 s.res1 (BitVec.ofNat 32 s.lat.outWidth) (BitVec.ofNat 32 s.lat.outHeight) s.gidx hphase

/-- R243, R244: in phase RUN the block makes a pixel or ends the command. -/
theorem runStep_moves {s : State} (hs : s.Inv) (hphase : s.phase = .run) : BlockMove s (runStep s) := by
  obtain ⟨i, hdec, hcheck, hloop, -⟩ := hs.runWork hphase
  simp only [runStep, hdec]
  split_ifs with hlt
  · exact .pixel i hphase hdec hcheck hloop hlt
  · exact finishStep_moves (by simp [hphase]) _

/-- Every micro-step of a well-kept state is one of the moves. -/
theorem blockStep_moves {s : State} (hs : s.Inv) : BlockMove s (blockStep s) := by
  unfold blockStep
  split
  next hphase => exact .still hphase
  next hphase => exact checkStep_moves hphase
  next hphase => exact .fill hphase (hs.fillWork hphase).1 (hs.fillWork hphase).2
  next hphase => exact runStep_moves hs hphase

/-- PIXEL writes one memory and `GIDX` (R243). -/
theorem pixelStep_frame (s : State) (g : Nat) (w : Work) :
    pixelStep s g w = { s with
      pb := (pixelStep s g w).pb, px := (pixelStep s g w).px, gidx := (pixelStep s g w).gidx } := by
  cases w <;> rfl

/-- PIXEL moves `GIDX` to the next group (R243). -/
theorem pixelStep_gidx (s : State) (g : Nat) {w : Work} (hloop : w.isLoop = true) :
    (pixelStep s g w).gidx = BitVec.ofNat 32 (g + 1) := by
  cases w with
  | atOnce => simp [Work.isLoop] at hloop
  | raster | encoder => rfl

/-- `GIDX` after a PIXEL inside the count does not wrap (R9, R243). -/
theorem pixelStep_gidx_toNat {i : Instr} {s : State} {g : Nat} (hcheck : operationCheck i s = none)
    (hloop : (operationWork i s).isLoop = true) (hlt : g < workCount s.lat (operationWork i s)) :
    (pixelStep s g (operationWork i s)).gidx.toNat = g + 1 := by
  have hcount := workCount_lt hcheck
  rw [pixelStep_gidx s g hloop, BitVec.toNat_ofNat, Nat.mod_eq_of_lt (by omega)]

/-- A PIXEL inside the count keeps both memories in canonical form (R57). -/
theorem wf_pixelStep {i : Instr} {s : State} {g : Nat} (hs : s.Inv) (hcheck : operationCheck i s = none)
    (hlt : g < workCount s.lat (operationWork i s)) :
    Memory.wf s.caps.pb.val (pixelStep s g (operationWork i s)).pb ∧
      Memory.wf s.caps.px.val (pixelStep s g (operationWork i s)).px := by
  rcases operationWork_cases i s with ⟨r0, r1, hw⟩ | ⟨p, hw, hraster⟩ | ⟨f, rfl⟩
  · simp [hw, workCount] at hlt
  · obtain ⟨-, -, -, hgroups, -⟩ := rasterCheck_eq_none (hraster hcheck)
    rw [hw] at hlt ⊢
    exact ⟨hs.pbForm, Memory.wf_store hs.pxForm (Nat.lt_of_lt_of_le hlt hgroups) _⟩
  · obtain ⟨-, hdest, hlen⟩ := encodeCheck_eq_none hcheck
    have hlt' : g < s.lat.pixels := hlt
    exact ⟨wf_memWrite16 hs.pbForm (by omega) _, hs.pxForm⟩

/-- The facts phase RUN asks for hold of a state alike in latch and capacities whose `GIDX` is inside the count. -/
theorem runWork_of {i : Instr} {s t : State} (hlat : t.lat = s.lat) (hcaps : t.caps = s.caps)
    (hdec : decode s.lat.cmd = .ok i) (hcheck : operationCheck i s = none)
    (hloop : (operationWork i s).isLoop = true) (hcount : t.gidx.toNat ≤ workCount s.lat (operationWork i s)) :
    ∃ i, decode t.lat.cmd = .ok i ∧ operationCheck i t = none ∧ (operationWork i t).isLoop = true ∧
      t.gidx.toNat ≤ workCount t.lat (operationWork i t) := by
  refine ⟨i, hlat ▸ hdec, ?_, ?_, ?_⟩
  · rw [operationCheck_congr i hlat hcaps, hcheck]
  · rw [isLoop_operationWork_congr i t s, hloop]
  · rw [workCount_operationWork_congr _ i t s, hlat]
    exact hcount

/-- Every move of the block keeps the invariant. -/
theorem BlockMove.keeps_inv {s t : State} (hs : s.Inv) (hmove : BlockMove s t) : t.Inv := by
  cases hmove with
  | still => exact hs
  | fail e => exact inv_raiseError e hs.pbForm hs.pxForm
  | finish => exact inv_of_done rfl rfl hs.pbForm hs.pxForm
  | enterRun i hphase hdec hcheck hloop =>
    have hrest : s.phase ≠ .rest := by simp [hphase]
    refine inv_of_running (hs.status_eq_busy hrest) (by simp) hs.pbForm hs.pxForm (hs.latched hrest)
      (by simp) (by simp) (fun _ => ?_)
    refine runWork_of (s := s) rfl rfl hdec hcheck hloop ?_
    simp [hs.startIndex (.inl hphase)]
  | enterFill hphase hdec hcheck =>
    have hrest : s.phase ≠ .rest := by simp [hphase]
    exact inv_of_running (hs.status_eq_busy hrest) (by simp) hs.pbForm hs.pxForm (hs.latched hrest)
      (fun _ => hs.startIndex (.inl hphase)) (fun _ => ⟨hdec, hcheck⟩) (by simp)
  | fill hphase hdec hcheck =>
    have hrest : s.phase ≠ .rest := by simp [hphase]
    obtain ⟨-, hdest, -⟩ := encodeCheck_eq_none hcheck
    refine inv_of_running (hs.status_eq_busy hrest) (by simp) (Memory.wf_storeRange hs.pbForm _ hdest) hs.pxForm
      (hs.latched hrest) (by simp) (by simp) (fun _ => ?_)
    refine runWork_of (s := s) rfl rfl hdec hcheck rfl ?_
    simp [hs.startIndex (.inr hphase)]
  | pixel i hphase hdec hcheck hloop hlt =>
    have hrest : s.phase ≠ .rest := by simp [hphase]
    have hgidx := pixelStep_gidx_toNat hcheck hloop hlt
    obtain ⟨hpb, hpx⟩ := wf_pixelStep hs hcheck hlt
    rw [pixelStep_frame]
    refine inv_of_running (hs.status_eq_busy hrest) hrest hpb hpx (hs.latched hrest)
      (by simp [hphase]) (by simp [hphase]) (fun _ => ?_)
    exact runWork_of (s := s) rfl rfl hdec hcheck hloop (by simp only [hgidx]; omega)

/-- A micro-step of a running command ends it, or goes on with the same `STATUS` and latch and a `GIDX` that has not
fallen (R23, R32). -/
theorem BlockMove.ends_or_goes_on {s t : State} (hmove : BlockMove s t) :
    (s.phase ≠ .rest ∧ (statusState t.status = .done ∨ statusState t.status = .error)) ∨
      (t.status = s.status ∧ t.lat = s.lat ∧ s.gidx.toNat ≤ t.gidx.toNat) := by
  cases hmove with
  | still => exact .inr ⟨rfl, rfl, le_rfl⟩
  | fail e hrest => exact .inl ⟨hrest, .inr (statusState_error e)⟩
  | finish r0 r1 w h g hrest => exact .inl ⟨hrest, .inl statusState_done⟩
  | enterRun | enterFill | fill => exact .inr ⟨rfl, rfl, le_rfl⟩
  | pixel i hphase hdec hcheck hloop hlt =>
    have hgidx := pixelStep_gidx_toNat hcheck hloop hlt
    refine .inr ⟨?_, ?_, by omega⟩ <;> rw [pixelStep_frame]

/-! ## The step -/

/-- The state with another list of host actions and another reply, the two fields no part of the block reads. -/
def State.withPorts (s : State) (host : List HostAction) (reply : Option Word) : State :=
  { s with host := host, reply := reply }

@[simp] theorem withPorts_status (s : State) (h : List HostAction) (r : Option Word) :
    (s.withPorts h r).status = s.status := rfl
@[simp] theorem withPorts_gidx (s : State) (h : List HostAction) (r : Option Word) :
    (s.withPorts h r).gidx = s.gidx := rfl
@[simp] theorem withPorts_lat (s : State) (h : List HostAction) (r : Option Word) :
    (s.withPorts h r).lat = s.lat := rfl
@[simp] theorem withPorts_phase (s : State) (h : List HostAction) (r : Option Word) :
    (s.withPorts h r).phase = s.phase := rfl
@[simp] theorem withPorts_busy (s : State) (h : List HostAction) (r : Option Word) :
    (s.withPorts h r).busy = s.busy := rfl

/-- The invariant does not speak of the host. -/
theorem State.Inv.withPorts {s : State} (hs : s.Inv) (h : List HostAction) (r : Option Word) :
    (s.withPorts h r).Inv :=
  { hs with
    runWork := fun hphase => by
      obtain ⟨i, hdec, hcheck, hloop, hcount⟩ := hs.runWork hphase
      exact runWork_of (s := s) rfl rfl hdec hcheck hloop hcount }

/-- What a step can do (R236): one constructor for each effect a host action can have. -/
inductive StepCase (s : State) : State → Prop where
  /-- A read, a dropped write, or a poll of a block at rest. -/
  | unmoved (h : List HostAction) (r : Option Word) : StepCase s (s.withPorts h r)
  /-- A micro-step of the block, in a quiet step or under `wait`. -/
  | move (h h' : List HostAction) (r r' : Option Word) :
      StepCase s ((blockStep (s.withPorts h r)).withPorts h' r')
  /-- A register write while no command runs. -/
  | write (h : List HostAction) (r : Option Word) (offset : Nat) (v : Word) : s.busy = false →
      StepCase s (writeRegister (s.withPorts h r) offset v)
  | storePB (h : List HostAction) (r : Option Word) (a : Nat) (v : Byte) : s.busy = false → a < s.caps.pb.val →
      StepCase s { s.withPorts h r with pb := Memory.store s.pb a v }
  | storePX (h : List HostAction) (r : Option Word) (n : Nat) (v : Word) : s.busy = false → n < s.caps.px.val →
      StepCase s { s.withPorts h r with px := Memory.store s.px n v }
  /-- A command taken whole (log entry 1). -/
  | command (w : Word) (rest : List HostAction) (t : State) : s.busy = false → s.host = .command w :: rest →
      runCommand w (startCommand w (s.withPorts rest s.reply)) = .next t → StepCase s t
  | reset (rest : List HostAction) : s.host = .reset :: rest →
      StepCase s (resetEvent (s.withPorts rest s.reply))

/-- Every step that answers a next state is one of the cases. -/
theorem step_cases {s t : State} (hstep : step s = .next t) : StepCase s t := by
  cases hhost : s.host with
  | nil =>
    rw [step_nil s hhost] at hstep
    cases hstep
    exact .move s.host (blockStep s).host s.reply (blockStep s).reply
  | cons a rest =>
    rw [step_cons s a rest hhost] at hstep
    cases a with
    | readReg offset bytes =>
      simp only [hostStep, hostReadReg] at hstep
      split_ifs at hstep
      cases hstep
      exact .unmoved _ _
    | writeReg offset bytes v =>
      simp only [hostStep, hostWriteReg] at hstep
      split_ifs at hstep with hshape hbusy <;> cases hstep
      · exact .unmoved rest s.reply
      · exact .write rest s.reply offset v (eq_false_of_ne_true hbusy)
    | readPB a =>
      simp only [hostStep, hostReadPB] at hstep
      split_ifs at hstep
      cases hstep
      exact .unmoved _ _
    | writePB a v =>
      simp only [hostStep, hostWritePB] at hstep
      split_ifs at hstep with hbusy hlt
      cases hstep
      exact .storePB rest s.reply a v (eq_false_of_ne_true hbusy) hlt
    | readPX n =>
      simp only [hostStep, hostReadPX] at hstep
      split_ifs at hstep
      cases hstep
      exact .unmoved _ _
    | writePX n v =>
      simp only [hostStep, hostWritePX] at hstep
      split_ifs at hstep with hbusy hlt
      cases hstep
      exact .storePX rest s.reply n v (eq_false_of_ne_true hbusy) hlt
    | command w =>
      simp only [hostStep, hostCommand] at hstep
      split_ifs at hstep with hbusy
      · cases hstep
        exact .unmoved rest s.reply
      · exact .command w rest t (eq_false_of_ne_true hbusy) hhost hstep
    | wait =>
      simp only [hostStep, hostWait] at hstep
      split_ifs at hstep <;> cases hstep
      · exact .move rest (.wait :: rest) (some s.status) _
      · exact .unmoved _ _
    | quiet =>
      cases hstep
      exact .move rest _ s.reply _
    | reset =>
      cases hstep
      exact .reset rest hhost

/-- A command run whole enters an error or makes the effect of a legal word whose checks pass (R89, R211). -/
theorem runCommand_cases {w : Word} {s t : State} (h : runCommand w s = .next t) :
    (∃ e, t = raiseError e s) ∨ ∃ i, decode w = .ok i ∧ operationCheck i s = none ∧ t = wholeEffect i s := by
  unfold runCommand at h
  split at h
  next i hdec =>
    rcases exec_cases h with ⟨e, -, ht⟩ | ⟨hcheck, ht⟩
    · exact .inl ⟨e, ht⟩
    · exact .inr ⟨i, hdec, hcheck, ht⟩
  next =>
    cases h
    exact .inl ⟨.param, rfl⟩

/-- A command taken whole ends in DONE or in ERROR (R23). -/
theorem runCommand_ends {w : Word} {s t : State} (h : runCommand w s = .next t) :
    statusState t.status = .done ∨ statusState t.status = .error := by
  rcases runCommand_cases h with ⟨e, rfl⟩ | ⟨i, -, -, rfl⟩
  · exact .inr (statusState_error e)
  · exact .inl (by rw [(wholeEffect_ends i s).1, statusState_done])

/-- R21, R41: besides a command start, a register write reaches the nine parameter registers only. -/
theorem writeRegister_frame (s : State) {offset : Nat} (hoff : offset ≠ 0) (v : Word) :
    writeRegister s offset v = { s with
      width := (writeRegister s offset v).width, height := (writeRegister s offset v).height,
      bufLen := (writeRegister s offset v).bufLen, imgW := (writeRegister s offset v).imgW,
      imgH := (writeRegister s offset v).imgH, destLen := (writeRegister s offset v).destLen,
      opa := (writeRegister s offset v).opa, xOut := (writeRegister s offset v).xOut,
      yOut := (writeRegister s offset v).yOut } := by
  unfold writeRegister
  split
  next => exact absurd rfl hoff
  all_goals rfl

/-! ## Every step keeps the invariant -/

/-- START gives a well-kept state (R240). -/
theorem inv_startCommand {s : State} (hs : s.Inv) (w : Word) : (startCommand w s).Inv :=
  inv_of_running rfl (by simp) hs.pbForm hs.pxForm rfl (fun _ => rfl) (by simp) (by simp)

/-- A register write while no command runs keeps the invariant. -/
theorem inv_writeRegister {s : State} (hs : s.Inv) (hidle : s.busy = false) (offset : Nat) (v : Word) :
    (writeRegister s offset v).Inv := by
  by_cases hoff : offset = 0
  · subst hoff
    exact inv_startCommand hs v
  · rw [writeRegister_frame s hoff]
    exact inv_of_rest (hs.phase_eq_rest hidle) hidle hs.pbForm hs.pxForm hs.statusForm hs.idleBlank hs.errorIndex

/-- A command taken whole keeps the invariant. -/
theorem inv_runCommand {w : Word} {s t : State} (hs : s.Inv) (h : runCommand w s = .next t) : t.Inv := by
  rcases runCommand_cases h with ⟨e, rfl⟩ | ⟨i, -, hcheck, rfl⟩
  · exact inv_raiseError e hs.pbForm hs.pxForm
  · obtain ⟨hstatus, hphase, hcaps⟩ := wholeEffect_ends i s
    obtain ⟨hpb, hpx⟩ := wf_wholeEffect hcheck hs.pbForm hs.pxForm
    exact inv_of_done hstatus hphase (hcaps ▸ hpb) (hcaps ▸ hpx)

/-- What a reset leaves of an abandoned command's output is in canonical form (R230). -/
theorem wf_abandonCommand {s : State} (hs : s.Inv) :
    Memory.wf s.caps.pb.val (abandonCommand s).pb ∧ Memory.wf s.caps.px.val (abandonCommand s).px ∧
      (abandonCommand s).caps = s.caps := by
  unfold abandonCommand
  split
  next => exact ⟨hs.pbForm, hs.pxForm, rfl⟩
  next i hdec =>
    split
    next => exact ⟨hs.pbForm, hs.pxForm, rfl⟩
    next hcheck =>
      rcases operationWork_cases i s with ⟨r0, r1, hw⟩ | ⟨p, hw, hraster⟩ | ⟨f, rfl⟩
      · rw [hw]
        exact ⟨hs.pbForm, hs.pxForm, rfl⟩
      · obtain ⟨-, -, -, hgroups, -⟩ := rasterCheck_eq_none (hraster hcheck)
        rw [hw]
        exact ⟨hs.pbForm, Memory.wf_storeRange hs.pxForm _ hgroups, rfl⟩
      · obtain ⟨-, hdest, -⟩ := encodeCheck_eq_none hcheck
        exact ⟨Memory.wf_storeRange hs.pbForm _ hdest, hs.pxForm, rfl⟩

/-- The cleared registers are well-kept when the memories are (R40). -/
theorem inv_resetRegisters {s : State} (hpb : Memory.wf s.caps.pb.val s.pb) (hpx : Memory.wf s.caps.px.val s.px) :
    (resetRegisters s).Inv :=
  inv_of_rest rfl rfl hpb hpx rfl (fun _ => ⟨rfl, rfl, rfl, rfl, rfl, rfl, rfl⟩) (fun _ => rfl)

/-- The reset event keeps the invariant, in the middle of a command too (R230). -/
theorem inv_resetEvent {s : State} (hs : s.Inv) : (resetEvent s).Inv := by
  unfold resetEvent
  split_ifs
  · obtain ⟨hpb, hpx, hcaps⟩ := wf_abandonCommand hs
    exact inv_resetRegisters (hcaps ▸ hpb) (hcaps ▸ hpx)
  · exact inv_resetRegisters hs.pbForm hs.pxForm

/-- Settles O59, by the cases of a step: each keeps the invariant by a lemma of its own. -/
theorem everyStepKeepsTheInvariant : Obligations.EveryStepKeepsTheInvariant := by
  unfold Obligations.EveryStepKeepsTheInvariant
  intro s t hs hstep
  cases step_cases hstep with
  | unmoved h r => exact hs.withPorts h r
  | move h h' r r' => exact ((blockStep_moves (hs.withPorts h r)).keeps_inv (hs.withPorts h r)).withPorts h' r'
  | write h r offset v hidle => exact inv_writeRegister (hs.withPorts h r) hidle offset v
  | storePB h r a v hidle hlt =>
    exact inv_of_rest (hs.phase_eq_rest hidle) hidle (Memory.wf_store hs.pbForm hlt v) hs.pxForm hs.statusForm
      hs.idleBlank hs.errorIndex
  | storePX h r n v hidle hlt =>
    exact inv_of_rest (hs.phase_eq_rest hidle) hidle hs.pbForm (Memory.wf_store hs.pxForm hlt v) hs.statusForm
      hs.idleBlank hs.errorIndex
  | command w rest t hidle hhost hrun =>
    exact inv_runCommand (inv_startCommand (hs.withPorts rest s.reply) w) hrun
  | reset rest hhost => exact inv_resetEvent (hs.withPorts rest s.reply)

/-! ## The counter and `STATUS` along a step -/

/-- R230: a reset leaves `STATUS` IDLE. -/
theorem resetEvent_status (s : State) : (resetEvent s).status = 0 := rfl

/-- R230: no command runs after a reset. -/
theorem resetEvent_busy (s : State) : (resetEvent s).busy = false := rfl

/-- Settles O55: only a micro-step moves `GIDX` while a command runs, and the bound is the invariant of the next
state. -/
theorem groupCounterClimbsToTheCount : Obligations.GroupCounterClimbsToTheCount := by
  unfold Obligations.GroupCounterClimbsToTheCount
  intro s t hs hbusy hstep htbusy
  have ht : t.Inv := everyStepKeepsTheInvariant s t hs hstep
  have hclimb : s.gidx.toNat ≤ t.gidx.toNat ∧ t.lat = s.lat := by
    cases step_cases hstep with
    | unmoved h r => exact ⟨le_rfl, rfl⟩
    | move h h' r r' =>
      rcases (blockStep_moves (hs.withPorts h r)).ends_or_goes_on with ⟨-, hend⟩ | ⟨-, hlat, hle⟩
      · rw [busy_iff, withPorts_status] at htbusy
        simp [htbusy] at hend
      · exact ⟨hle, hlat⟩
    | write _ _ _ _ hidle | storePB _ _ _ _ hidle | storePX _ _ _ _ hidle | command _ _ _ hidle =>
      simp [hbusy] at hidle
    | reset => simp [resetEvent_busy] at htbusy
  refine ⟨hclimb.1, hclimb.2, fun i hdec hphase => ?_⟩
  obtain ⟨j, hj, -, -, hcount⟩ := ht.runWork hphase
  cases hdec.symm.trans hj
  exact hcount

/-- Settles O60: the first clause is the legality of `STATUS` in the next state, the second goes by the cases of a
step. -/
theorem statusMovesAsTheSpecSays : Obligations.StatusMovesAsTheSpecSays := by
  unfold Obligations.StatusMovesAsTheSpecSays
  intro s t hs hstep
  refine ⟨statusErr_ne_zero_iff (everyStepKeepsTheInvariant s t hs hstep).statusForm, ?_⟩
  cases step_cases hstep with
  | unmoved | storePB | storePX => exact .inl rfl
  | move h h' r r' =>
    rcases (blockStep_moves (hs.withPorts h r)).ends_or_goes_on with ⟨hphase, hend⟩ | ⟨hstatus, -, -⟩
    · exact .inr (.inr (.inl ⟨hs.busyPhase.mpr hphase, hend⟩))
    · exact .inl hstatus
  | write h r offset v hidle =>
    by_cases hoff : offset = 0
    · subst hoff
      exact .inr (.inl ⟨hidle, rfl⟩)
    · rw [writeRegister_frame _ hoff]
      exact .inl rfl
  | command w rest t hidle hhost hrun =>
    exact .inr (.inr (.inr (.inl ⟨hidle, ⟨w, rest, hhost⟩, runCommand_ends hrun⟩)))
  | reset rest hhost => exact .inr (.inr (.inr (.inr ⟨⟨rest, hhost⟩, resetEvent_status _⟩)))

/-! ## What an operation leaves alone -/

/-- An operation writes results, `STATUS`, `GIDX`, the phase and the two memories, and nothing else (R8, R211). -/
theorem exec_frame {i : Instr} {s t : State} (h : exec i s = .next t) :
    t = { s with
      status := t.status, res0 := t.res0, res1 := t.res1, outW := t.outW, outH := t.outH, gidx := t.gidx,
      phase := t.phase, pb := t.pb, px := t.px } := by
  rcases exec_cases h with ⟨e, -, rfl⟩ | ⟨-, rfl⟩
  · rfl
  · rcases wholeEffect_cases i s with ⟨r0, r1, he⟩ | ⟨p, he, -⟩ | ⟨f, -, he⟩ <;> rw [he] <;> rfl

/-- Settles O37: every field named is outside the frame of the operations. -/
theorem parametersAreNeverWritten : Obligations.ParametersAreNeverWritten := by
  unfold Obligations.ParametersAreNeverWritten
  intro i s t h
  rw [exec_frame h]
  simp only [and_self]

/-- R30: the operations besides the scalar ones and `BOFF` leave `RES0` alone. -/
theorem wholeEffect_res0 {i : Instr} (hscalar : i ∉ [.dec565, .enc565, .greyAvg, .greyLum])
    (hboff : ∀ c, i ≠ .boff c) (s : State) : (wholeEffect i s).res0 = s.res0 := by
  cases i with
  | dec565 | enc565 | greyAvg | greyLum => simp at hscalar
  | boff c => exact absurd rfl (hboff c)
  | _ => rfl

/-- R30: the operations besides `BOFF` leave `RES1` alone. -/
theorem wholeEffect_res1 {i : Instr} (hboff : ∀ c, i ≠ .boff c) (s : State) :
    (wholeEffect i s).res1 = s.res1 := by
  cases i with
  | boff c => exact absurd rfl (hboff c)
  | _ => rfl

/-- R31, R36: the operations besides `EXTRACT` and `BLEND.*` leave `OUTW`, `OUTH` and PX alone. -/
theorem wholeEffect_image {i : Instr} (hblend : i ∉ blends) (hextract : ∀ c k q g, i ≠ .extract c k q g)
    (s : State) :
    (wholeEffect i s).outW = s.outW ∧ (wholeEffect i s).outH = s.outH ∧ (wholeEffect i s).px = s.px := by
  cases i with
  | extract c k q g => exact absurd rfl (hextract c k q g)
  | blendLight | blendLMask | blendDark | blendDMask | blendMComp | blendCAvg | blendDmab => simp at hblend
  | _ => exact ⟨rfl, rfl, rfl⟩

/-- R35: the operations besides `ENCODE` leave PB alone. -/
theorem wholeEffect_pb {i : Instr} (hencode : ∀ f, i ≠ .encode f) (s : State) : (wholeEffect i s).pb = s.pb := by
  cases i with
  | encode f => exact absurd rfl (hencode f)
  | _ => rfl

/-- Settles O38: an error writes no result, and a whole effect those of its own operation. -/
theorem resultsHaveTheirWriters : Obligations.ResultsHaveTheirWriters := by
  unfold Obligations.ResultsHaveTheirWriters
  intro i s t h
  rcases exec_cases h with ⟨e, -, rfl⟩ | ⟨-, rfl⟩
  · exact ⟨fun _ _ => rfl, fun _ => rfl, fun _ _ => ⟨rfl, rfl, rfl⟩, fun _ => rfl⟩
  · exact ⟨fun hscalar hboff => wholeEffect_res0 hscalar hboff s, fun hboff => wholeEffect_res1 hboff s,
      fun hblend hextract => wholeEffect_image hblend hextract s, fun hencode => wholeEffect_pb hencode s⟩

/-! ## What an outcome depends on -/

/-- Two states alike in all an operation reads: the latch, the capacities and the two memories (R39). -/
structure SameInputs (s t : State) : Prop where
  lat : s.lat = t.lat
  caps : s.caps = t.caps
  pb : ∀ a, pbByte s.pb a = pbByte t.pb a
  px : ∀ n, pxWord s.px n = pxWord t.px n

/-- From `s` and `t` a command comes to `s'` and `t'` with one outcome: a result register it writes gets one value, a
result register it does not write keeps its own in both (R39). -/
structure SameOutcome (s t s' t' : State) : Prop where
  status : s'.status = t'.status
  gidx : s'.gidx = t'.gidx
  pb : ∀ a, pbByte s'.pb a = pbByte t'.pb a
  px : ∀ n, pxWord s'.px n = pxWord t'.px n
  res0 : s'.res0 = t'.res0 ∨ s'.res0 = s.res0 ∧ t'.res0 = t.res0
  res1 : s'.res1 = t'.res1 ∨ s'.res1 = s.res1 ∧ t'.res1 = t.res1
  size : s'.outW = t'.outW ∧ s'.outH = t'.outH ∨
    s'.outW = s.outW ∧ t'.outW = t.outW ∧ s'.outH = s.outH ∧ t'.outH = t.outH

/-- A `blendPixel` or `extractPixel` reads the eight bytes of its own group only (R55, R134, R150). -/
def ReadsOwnGroup (pixel : List Host.Cell → Nat → Word) : Prop :=
  ∀ (p q : List Host.Cell) (g : Nat), (∀ k < 8, pbByte p (8 * g + k) = pbByte q (8 * g + k)) → pixel p g = pixel q g

/-- The colour of a slot depends on the bytes of its group only. -/
theorem slotRgb_congr {p q : List Host.Cell} {g : Nat}
    (h : ∀ k < 8, pbByte p (8 * g + k) = pbByte q (8 * g + k)) {off : Nat} (hoff : off < 7) :
    slotRgb p g off = slotRgb q g off := by
  simp only [slotRgb, memRead16_congr (h off (by omega)) (h (off + 1) (by omega))]

/-- The mask slots of R130 lie inside the group. -/
theorem maskOffset_lt {c : Channel} {q : MaskReq} {off : Nat} (h : maskOffset c q = some off) : off < 7 := by
  cases c <;> cases q <;> cases h <;> decide

/-- `extractPixel` reads its own group only (R134). -/
theorem readsOwnGroup_extractPixel (c : Channel) (k : MaskKind) (r : MaskReq) (sel : GreySel) :
    ReadsOwnGroup (extractPixel c k r sel) := by
  intro p q g h
  have hcolour : slotRgb p g (chanOffset c) = slotRgb q g (chanOffset c) :=
    slotRgb_congr h (by cases c <;> decide)
  have halpha : extractAlpha c k r sel p g = extractAlpha c k r sel q g := by
    unfold extractAlpha
    split
    next off hoff => rw [slotRgb_congr h (maskOffset_lt hoff)]
    next => rfl
  simp only [extractPixel, hcolour, halpha]

/-- Every raster operation reads, for a group, that group only (R134, R150). -/
theorem readsOwnGroup_of_raster {i : Instr} {s : State} {pixel : List Host.Cell → Nat → Word}
    (h : operationWork i s = .raster pixel) : ReadsOwnGroup pixel := by
  cases i with
  | extract c k q g =>
    cases h
    exact readsOwnGroup_extractPixel c k q g
  | blendLight | blendLMask | blendDark | blendDMask | blendMComp | blendCAvg | blendDmab =>
    cases h
    intro p q g hg
    have h0 := slotRgb_congr hg (off := 0) (by decide)
    have h2 := slotRgb_congr hg (off := 2) (by decide)
    have h4 := slotRgb_congr hg (off := 4) (by decide)
    have h6 := slotRgb_congr hg (off := 6) (by decide)
    simp only [lightPixel, lightMaskPixel, darkPixel, darkMaskPixel, maskedPixel, averagePixel, dualMaskPixel,
      dualMaskWeight, h0, h2, h4, h6]
  | _ => cases h

/-- One error entered from both states is one outcome. -/
theorem sameOutcome_raiseError {s t : State} (h : SameInputs s t) (e : ErrorClass) :
    SameOutcome s t (raiseError e s) (raiseError e t) where
  status := rfl
  gidx := rfl
  pb := h.pb
  px := h.px
  res0 := .inr ⟨rfl, rfl⟩
  res1 := .inr ⟨rfl, rfl⟩
  size := .inr ⟨rfl, rfl, rfl, rfl⟩

/-- A raster operation has one outcome from both states. -/
theorem sameOutcome_rasterDone {s t : State} (h : SameInputs s t) {pixel : List Host.Cell → Nat → Word}
    (hpixel : ReadsOwnGroup pixel) : SameOutcome s t (rasterDone pixel s) (rasterDone pixel t) where
  status := rfl
  gidx := by simp only [rasterDone_gidx, h.lat]
  pb := h.pb
  px n := by
    simp only [rasterDone_px, pxWord_storeRange, h.lat, h.px, hpixel s.pb t.pb n (fun k _ => h.pb _)]
  res0 := .inr ⟨rfl, rfl⟩
  res1 := .inr ⟨rfl, rfl⟩
  size := .inl (by simp only [rasterDone_outW, rasterDone_outH, h.lat, and_self])

/-- An operation whose work is a raster has one outcome from both states. -/
theorem sameOutcome_of_raster {s t : State} (h : SameInputs s t) {i : Instr} {pixel : List Host.Cell → Nat → Word}
    (hs : operationWork i s = .raster pixel) (ht : operationWork i t = .raster pixel) :
    SameOutcome s t (wholeEffect i s) (wholeEffect i t) := by
  simp only [wholeEffect, hs, ht]
  exact sameOutcome_rasterDone h (readsOwnGroup_of_raster hs)

/-- The background is one in both states (R183). -/
theorem pbByte_background_congr {p q : List Host.Cell} (h : ∀ a, pbByte p a = pbByte q a) (f : FillMode) (n a : Nat) :
    pbByte (background f n p) a = pbByte (background f n q) a := by
  cases f with
  | zeroFill => simp only [background, zeroBytes, pbByte_storeRange, h]
  | patch => exact h a

/-- `ENCODE` has one outcome from both states. -/
theorem sameOutcome_encodeDone {s t : State} (h : SameInputs s t) (f : FillMode) :
    SameOutcome s t (encodeDone f s) (encodeDone f t) where
  status := rfl
  gidx := by simp only [encodeDone_gidx, h.lat]
  pb a := by
    simp only [encodeDone_pb, pbByte_encodePixels, pixelColour, h.px, h.lat, pbByte_background_congr h.pb]
  px := h.px
  res0 := .inr ⟨rfl, rfl⟩
  res1 := .inr ⟨rfl, rfl⟩
  size := .inr ⟨rfl, rfl, rfl, rfl⟩

/-- An operation that writes its results at once has one outcome when each result is one or kept. -/
theorem sameOutcome_atOnce {s t : State} (h : SameInputs s t) {r0 r1 q0 q1 : Word}
    (h0 : r0 = q0 ∨ r0 = s.res0 ∧ q0 = t.res0) (h1 : r1 = q1 ∨ r1 = s.res1 ∧ q1 = t.res1) :
    SameOutcome s t (finishDone 0 { s with res0 := r0, res1 := r1 })
      (finishDone 0 { t with res0 := q0, res1 := q1 }) where
  status := rfl
  gidx := rfl
  pb := h.pb
  px := h.px
  res0 := h0
  res1 := h1
  size := .inr ⟨rfl, rfl, rfl, rfl⟩

/-- The whole effect of an operation is one outcome from two states alike in what it reads (R39). -/
theorem sameOutcome_wholeEffect {s t : State} (h : SameInputs s t) (i : Instr) :
    SameOutcome s t (wholeEffect i s) (wholeEffect i t) := by
  cases i with
  | nop => exact sameOutcome_atOnce h (.inr ⟨rfl, rfl⟩) (.inr ⟨rfl, rfl⟩)
  | dec565 => exact sameOutcome_atOnce h (.inl (congrArg dec565Result h.lat)) (.inr ⟨rfl, rfl⟩)
  | enc565 => exact sameOutcome_atOnce h (.inl (congrArg enc565Result h.lat)) (.inr ⟨rfl, rfl⟩)
  | greyAvg => exact sameOutcome_atOnce h (.inl (congrArg greyAvgResult h.lat)) (.inr ⟨rfl, rfl⟩)
  | greyLum => exact sameOutcome_atOnce h (.inl (congrArg greyLumResult h.lat)) (.inr ⟨rfl, rfl⟩)
  | boff c =>
    exact sameOutcome_atOnce h (.inl (congrArg (fun l => BitVec.ofNat 32 (boffOffset c l)) h.lat))
      (.inl (congrArg (fun l => BitVec.ofNat 32 (boffGroup l)) h.lat))
  | extract | blendLight | blendLMask | blendDark | blendDMask | blendMComp | blendCAvg | blendDmab =>
    exact sameOutcome_of_raster h rfl rfl
  | encode f => exact sameOutcome_encodeDone h f

/-- Settles O40: the checks agree, so both states enter one error or make one whole effect. -/
theorem outcomeDependsOnLatchAndMemories : Obligations.OutcomeDependsOnLatchAndMemories := by
  unfold Obligations.OutcomeDependsOnLatchAndMemories
  intro i s t hlat hcaps hpb hpx
  have hin : SameInputs s t := ⟨hlat, hcaps, hpb, hpx⟩
  have hout : SameOutcome s t (conclude (operationCheck i s) (wholeEffect i) s)
      (conclude (operationCheck i t) (wholeEffect i) t) := by
    rw [← operationCheck_congr i hlat hcaps]
    cases operationCheck i s with
    | some e => exact sameOutcome_raiseError hin e
    | none => exact sameOutcome_wholeEffect hin i
  exact ⟨_, _, exec_eq_conclude i s, exec_eq_conclude i t, hout.status, hout.gidx, hout.pb, hout.px, hout.res0,
    hout.res1, hout.size⟩

/-! ## The register space -/

/-- R60: an aligned 32-bit read is answered, at any time (R42). -/
theorem hostReadReg_aligned {offset : Nat} (h : offset % 4 = 0) (s : State) :
    hostReadReg offset 4 s = .next (answer (readRegister s offset) s) := by
  simp [hostReadReg, registerShape, h]

/-- R60: an aligned 32-bit write is made, unless a command runs (R42). -/
theorem hostWriteReg_aligned {offset : Nat} (h : offset % 4 = 0) (v : Word) (s : State) :
    hostWriteReg offset 4 v s = .next (if s.busy then s else writeRegister s offset v) := by
  simp [hostWriteReg, registerShape, h]

/-- The step that takes an aligned register read (R41). -/
theorem step_readReg {s : State} {offset : Nat} {rest : List HostAction} (hoff : offset % 4 = 0)
    (hhost : s.host = .readReg offset 4 :: rest) :
    step s = .next { s with host := rest, reply := some (readRegister s offset) } := by
  rw [step_cons s _ rest hhost, hostStep, hostReadReg_aligned hoff]
  rfl

/-- The step that takes an aligned register write (R41, R42). -/
theorem step_writeReg {s : State} {offset : Nat} {v : Word} {rest : List HostAction} (hoff : offset % 4 = 0)
    (hhost : s.host = .writeReg offset 4 v :: rest) :
    step s = .next (if s.busy then { s with host := rest } else writeRegister { s with host := rest } offset v) := by
  rw [step_cons s _ rest hhost, hostStep, hostWriteReg_aligned hoff]
  rfl

/-- R42: a running command drops the next one. -/
theorem step_command_of_busy {s : State} {w : Word} {rest : List HostAction} (hbusy : s.busy = true)
    (hhost : s.host = .command w :: rest) : step s = .next { s with host := rest } := by
  have hbusy' : ({ s with host := rest } : State).busy = true := hbusy
  rw [step_cons s _ rest hhost, hostStep, hostCommand, if_pos hbusy']

/-- The offsets of the parameter registers a host can write, `CMD` aside (R21). -/
abbrev parameterOffsets : List Nat := [0x08, 0x0C, 0x10, 0x14, 0x18, 0x1C, 0x20, 0x24, 0x28]

/-- A parameter register reads back what is written to it (R21). -/
theorem readRegister_writeRegister_same (s : State) {offset : Nat} (h : offset ∈ parameterOffsets) (v : Word) :
    readRegister (writeRegister s offset v) offset = v := by
  simp only [List.mem_cons, List.not_mem_nil, or_false] at h
  rcases h with rfl | rfl | rfl | rfl | rfl | rfl | rfl | rfl | rfl <;> rfl

/-- A write at any other offset but 0 is ignored (R41). -/
theorem writeRegister_of_not_mem (s : State) {offset : Nat} (hoff : offset ≠ 0) (h : offset ∉ parameterOffsets)
    (v : Word) : writeRegister s offset v = s := by
  unfold writeRegister
  split
  next => exact absurd rfl hoff
  case h_11 => rfl
  all_goals simp at h

/-- A parameter write is seen at no other offset (R21). -/
theorem readRegister_writeRegister_other (s : State) {offset o : Nat} (hoff : offset ≠ 0) (ho : o ≠ offset)
    (v : Word) : readRegister (writeRegister s offset v) o = readRegister s o := by
  unfold writeRegister
  split
  next => exact absurd rfl hoff
  all_goals
    unfold readRegister
    split <;> first | rfl | exact absurd rfl ho

/-- The register map after a register write (R21, R41). -/
theorem readRegister_writeRegister (s : State) {offset : Nat} (hoff : offset ≠ 0) (v : Word) (o : Nat) :
    readRegister (writeRegister s offset v) o =
      if o = offset ∧ o ∈ parameterOffsets then v else readRegister s o := by
  by_cases ho : o = offset
  · subst ho
    by_cases hmem : o ∈ parameterOffsets
    · rw [if_pos ⟨rfl, hmem⟩, readRegister_writeRegister_same s hmem]
    · rw [if_neg (fun h => hmem h.2), writeRegister_of_not_mem s hoff hmem]
  · rw [if_neg (fun h => ho h.1), readRegister_writeRegister_other s hoff ho]

/-- R41: there is no register at 0x40 and above. -/
theorem readRegister_of_ge (s : State) {offset : Nat} (h : offset ≥ 0x40) : readRegister s offset = 0 := by
  unfold readRegister
  split
  case h_17 => rfl
  all_goals omega

/-- Settles O45: what the registers read after the write, and the frame of `writeRegister`. -/
theorem registerWritesReachParametersOnly : Obligations.RegisterWritesReachParametersOnly := by
  unfold Obligations.RegisterWritesReachParametersOnly
  intro s rest offset v hidle halign hoff hhost
  have hstep := step_writeReg halign hhost
  rw [if_neg (by simp [hidle])] at hstep
  exact ⟨_, hstep, readRegister_writeRegister _ hoff v, writeRegister_frame _ hoff v⟩

/-- Settles O43, clause by clause from the steps of the three host actions. -/
theorem busyBlockDropsWritesAndAnswersReads : Obligations.BusyBlockDropsWritesAndAnswersReads := by
  unfold Obligations.BusyBlockDropsWritesAndAnswersReads
  intro s rest offset v hbusy halign
  refine ⟨fun hhost => ?_, fun hhost => step_command_of_busy hbusy hhost, fun hhost => step_readReg halign hhost⟩
  rw [step_writeReg halign hhost, if_pos hbusy]

/-- Settles O44: the answer is `readRegister`, evaluated at each offset of the map. -/
theorem registerReadsFollowTheMap : Obligations.RegisterReadsFollowTheMap := by
  unfold Obligations.RegisterReadsFollowTheMap
  intro s rest offset halign hhost
  refine ⟨readRegister s offset, step_readReg halign hhost, readRegister_of_ge s, ?_⟩
  simp only [List.forall_mem_cons, List.not_mem_nil, false_implies, implies_true, and_true]
  and_intros <;> rintro rfl <;> rfl

/-! ## Reset -/

/-- R40: every register reads 0 after reset. -/
theorem readRegister_reset (offset : Nat) : readRegister State.reset offset = 0 := by
  unfold readRegister
  split <;> rfl

/-- Settles O49: the registers by `readRegister_reset`, and a memory with nothing written has no entry. -/
theorem resetLeavesZeroRegisters : Obligations.ResetLeavesZeroRegisters := by
  unfold Obligations.ResetLeavesZeroRegisters
  exact ⟨readRegister_reset, rfl, rfl, fun _ => rfl, fun _ => rfl⟩

/-- Settles O58: the reset state rests with nothing written and `STATUS` IDLE. -/
theorem resetIsWellKept : Obligations.ResetIsWellKept := by
  unfold Obligations.ResetIsWellKept
  exact inv_resetRegisters (s := State.reset) (Memory.wf_nil _) (Memory.wf_nil _)

end Sys2Proof.Machine

/-! The memories (spec/20_memory.md): the part of PB a reading operation depends on, the two memory ports, the place of
a slot, and the host accesses with no meaning. -/

namespace Sys2Proof.Machine

/-! ## What a reading operation reads -/

/-- R134, R150: the work of `EXTRACT` and of every `BLEND.*` is a raster, the same from every state. -/
theorem operationWork_of_reading {i : Instr} (h : i ∈ blends ∨ ∃ c k q g, i = .extract c k q g) :
    ∃ pixel, ∀ s, operationWork i s = .raster pixel := by
  rcases h with hblend | ⟨c, k, q, g, rfl⟩
  · simp only [List.mem_cons, List.not_mem_nil, or_false] at hblend
    rcases hblend with rfl | rfl | rfl | rfl | rfl | rfl | rfl <;> exact ⟨_, fun _ => rfl⟩
  · exact ⟨_, fun _ => rfl⟩

/-- R57: the image of `n` groups depends on PB below `8n` only. -/
theorem storeRange_pixel_congr {pixel : List Host.Cell → Nat → Word} (hpixel : ReadsOwnGroup pixel)
    {p q : List Host.Cell} {n : Nat} (h : ∀ a, a < 8 * n → pbByte p a = pbByte q a) (px : List (Nat × Word)) :
    Memory.storeRange (pixel p) n px = Memory.storeRange (pixel q) n px :=
  Memory.storeRange_congr (fun g hg => hpixel p q g (fun k hk => h (8 * g + k) (by omega))) px

/-- R57: a raster operation with another PB tail leaves the same state, but for that tail. -/
theorem rasterDone_withPb {pixel : List Host.Cell → Nat → Word} (hpixel : ReadsOwnGroup pixel) {s : State}
    {pb' : List Host.Cell} (h : ∀ a, a < 8 * s.lat.groups → pbByte pb' a = pbByte s.pb a) :
    rasterDone pixel { s with pb := pb' } = { rasterDone pixel s with pb := pb' } := by
  simp only [rasterDone, finishDone, storeRange_pixel_congr hpixel h]

/-- Settles O31: the checks do not read PB, an error keeps it, and each pixel reads its own group. -/
theorem rasterReadsOnlyItsGroups : Obligations.RasterReadsOnlyItsGroups := by
  unfold Obligations.RasterReadsOnlyItsGroups
  intro i s pb' hreading hpb
  obtain ⟨pixel, hwork⟩ := operationWork_of_reading hreading
  have hpixel : ReadsOwnGroup pixel := readsOwnGroup_of_raster (hwork s)
  have hcheck : operationCheck i { s with pb := pb' } = operationCheck i s := operationCheck_congr i rfl rfl
  refine ⟨_, _, exec_eq_conclude i s, exec_eq_conclude i _, ?_⟩
  rw [hcheck]
  cases operationCheck i s with
  | some e => rfl
  | none =>
    simp only [conclude_none, wholeEffect, hwork]
    exact rasterDone_withPb hpixel hpb

/-! ## The memory ports -/

/-- The step that takes a PB read (R58, R245). -/
theorem step_readPB {s : State} {a : Nat} {rest : List HostAction} (hhost : s.host = .readPB a :: rest) :
    step s =
      if s.busy then .refused .memoryPortWhileBusy
      else if a < s.caps.pb.val then .next { s with host := rest, reply := some ((pbByte s.pb a).setWidth 32) }
      else .fault (.pbIndexBeyondCapacity a) :=
  step_cons s _ rest hhost

/-- The step that takes a PB write (R58, R245). -/
theorem step_writePB {s : State} {a : Nat} {v : Byte} {rest : List HostAction}
    (hhost : s.host = .writePB a v :: rest) :
    step s =
      if s.busy then .refused .memoryPortWhileBusy
      else if a < s.caps.pb.val then .next { s with host := rest, pb := Memory.store s.pb a v }
      else .fault (.pbIndexBeyondCapacity a) :=
  step_cons s _ rest hhost

/-- The step that takes a PX read (R59, R245). -/
theorem step_readPX {s : State} {i : Nat} {rest : List HostAction} (hhost : s.host = .readPX i :: rest) :
    step s =
      if s.busy then .refused .memoryPortWhileBusy
      else if i < s.caps.px.val then .next { s with host := rest, reply := some (pxWord s.px i) }
      else .fault (.pxIndexBeyondCapacity i) :=
  step_cons s _ rest hhost

/-- The step that takes a PX write (R59, R245). -/
theorem step_writePX {s : State} {i : Nat} {v : Word} {rest : List HostAction}
    (hhost : s.host = .writePX i v :: rest) :
    step s =
      if s.busy then .refused .memoryPortWhileBusy
      else if i < s.caps.px.val then .next { s with host := rest, px := Memory.store s.px i v }
      else .fault (.pxIndexBeyondCapacity i) :=
  step_cons s _ rest hhost

/-- Settles O46: the steps of the PB port in an idle block, below the capacity and at or above it. -/
theorem pbPortReadsAndWritesOneByte : Obligations.PbPortReadsAndWritesOneByte := by
  unfold Obligations.PbPortReadsAndWritesOneByte
  intro s rest a v hidle
  refine ⟨fun ha hhost => ⟨{ s with host := rest, pb := Memory.store s.pb a v }, ?_, rfl, ?_⟩,
    fun ha hhost => ?_, fun ha hhost => ?_⟩
  · simp [step_writePB hhost, hidle, ha]
  · exact fun b => pbByte_store s.pb a b v
  · simp [step_readPB hhost, hidle, ha]
  · rcases hhost with hwrite | hread
    · simp [step_writePB hwrite, hidle, Nat.not_lt.mpr ha]
    · simp [step_readPB hread, hidle, Nat.not_lt.mpr ha]

/-- Settles O47: the steps of the PX port in an idle block, below the capacity and at or above it. -/
theorem pxPortReadsAndWritesOneWord : Obligations.PxPortReadsAndWritesOneWord := by
  unfold Obligations.PxPortReadsAndWritesOneWord
  intro s rest i v hidle
  refine ⟨fun hi hhost => ⟨{ s with host := rest, px := Memory.store s.px i v }, ?_, rfl, ?_⟩,
    fun hi hhost => ?_, fun hi hhost => ?_⟩
  · simp [step_writePX hhost, hidle, hi]
  · exact fun n => pxWord_store s.px i n v
  · simp [step_readPX hhost, hidle, hi]
  · rcases hhost with hwrite | hread
    · simp [step_writePX hwrite, hidle, Nat.not_lt.mpr hi]
    · simp [step_readPX hread, hidle, Nat.not_lt.mpr hi]

/-! ## The place of a slot -/

/-- R122: the slots of a group stand in the order of the channel numbers, two bytes each. -/
theorem chanOffset_eq (c : Channel) : chanOffset c = 2 * (channelCode c).toNat := by
  cases c <;> rfl

/-- R127: the channel of an offset depends on the offset's place in its group only. -/
theorem offsetChannel_eight_mul_add (g k : Nat) : offsetChannel (8 * g + k) = offsetChannel k := by
  unfold offsetChannel
  rw [Nat.mul_add_mod]

/-- R122, R127: in a group the inverse mapping gives a slot's channel back. -/
theorem offsetChannel_chanOffset (c : Channel) : offsetChannel (chanOffset c) = c := by
  cases c <;> rfl

/-- Settles O17: a slot's offset in its group is twice a channel number, which is below 4. -/
theorem slotOffsetsFillTheGroup : Obligations.SlotOffsetsFillTheGroup := by
  unfold Obligations.SlotOffsetsFillTheGroup
  intro g c
  have hoff : chanOffset c = 2 * (channelCode c).toNat := chanOffset_eq c
  have hcode : (channelCode c).toNat < 4 := (channelCode c).isLt
  have hchannel : offsetChannel (byteOffset g c) = c := by
    rw [byteOffset, offsetChannel_eight_mul_add, offsetChannel_chanOffset]
  simp only [byteOffset, offsetGroup] at hchannel ⊢
  exact ⟨by omega, by omega, by omega, by omega, hchannel⟩

/-! ## Accesses with no meaning -/

/-- R60: a register read of another width or alignment is refused, in every state. -/
theorem hostReadReg_misshapen {offset bytes : Nat} (h : ¬ registerShape offset bytes) (s : State) :
    hostReadReg offset bytes s = .refused (.registerAccessShape offset bytes) := by
  rw [hostReadReg, if_neg h]

/-- R60: a register write of another width or alignment is refused, in every state. -/
theorem hostWriteReg_misshapen {offset bytes : Nat} (h : ¬ registerShape offset bytes) (v : Word) (s : State) :
    hostWriteReg offset bytes v s = .refused (.registerAccessShape offset bytes) := by
  rw [hostWriteReg, if_neg h]

/-- Settles O48: the misshapen register accesses by their outcomes, the memory ports by their steps. -/
theorem forbiddenHostAccessesAreRefused : Obligations.ForbiddenHostAccessesAreRefused := by
  unfold Obligations.ForbiddenHostAccessesAreRefused
  intro s rest offset bytes a b v
  constructor
  · intro hshape hhost
    have hmisshapen : ¬ registerShape offset bytes := not_and_or.mpr hshape
    rcases hhost with hread | hwrite
    · rw [step_cons s _ rest hread, hostStep, hostReadReg_misshapen hmisshapen]
    · rw [step_cons s _ rest hwrite, hostStep, hostWriteReg_misshapen hmisshapen]
  · intro hbusy hhost
    rcases hhost with hreadPB | hwritePB | hreadPX | hwritePX
    · rw [step_readPB hreadPB, if_pos hbusy]
    · rw [step_writePB hwritePB, if_pos hbusy]
    · rw [step_readPX hreadPX, if_pos hbusy]
    · rw [step_writePX hwritePX, if_pos hbusy]

end Sys2Proof.Machine

/-! The command word (spec/30_encoding.md): its fields as numbers, the decoder against the encoder and the legality
check, and the rows of the opcode table. -/

namespace Sys2Proof

/-! ## The fields of a word -/

@[simp] theorem commandFields_op_toNat (w : Word) : (commandFields w).op.toNat = w.toNat % 16 := by
  simp [commandFields]
@[simp] theorem commandFields_strat_toNat (w : Word) : (commandFields w).strat.toNat = w.toNat / 16 % 8 := by
  simp [commandFields, Nat.shiftRight_eq_div_pow]
@[simp] theorem commandFields_chan_toNat (w : Word) : (commandFields w).chan.toNat = w.toNat / 128 % 4 := by
  simp [commandFields, Nat.shiftRight_eq_div_pow]
@[simp] theorem commandFields_maskKind_toNat (w : Word) : (commandFields w).maskKind.toNat = w.toNat / 512 % 4 := by
  simp [commandFields, Nat.shiftRight_eq_div_pow]
@[simp] theorem commandFields_maskReq_toNat (w : Word) : (commandFields w).maskReq.toNat = w.toNat / 2048 % 4 := by
  simp [commandFields, Nat.shiftRight_eq_div_pow]
@[simp] theorem commandFields_greySel_toNat (w : Word) : (commandFields w).greySel.toNat = w.toNat / 8192 % 2 := by
  simp [commandFields, Nat.shiftRight_eq_div_pow]
@[simp] theorem commandFields_fill_toNat (w : Word) : (commandFields w).fill.toNat = w.toNat / 16384 % 2 := by
  simp [commandFields, Nat.shiftRight_eq_div_pow]
@[simp] theorem commandFields_reserved_toNat (w : Word) : (commandFields w).reserved.toNat = w.toNat / 32768 := by
  have := w.isLt
  simp only [commandFields, BitVec.extractLsb'_toNat, Nat.shiftRight_eq_div_pow]
  omega

/-- The number an appended word stands for: the high part above the low one. -/
theorem toNat_append_eq_add {m n : Nat} (x : BitVec m) (y : BitVec n) :
    (x ++ y).toNat = x.toNat * 2 ^ n + y.toNat := by
  rw [BitVec.toNat_append, Nat.shiftLeft_eq, Nat.mul_comm, ← Nat.two_pow_add_eq_or_of_lt y.isLt]

/-- R80: the number of a word, from its fields. -/
theorem packFields_toNat (f : CommandFields) :
    (packFields f).toNat = f.reserved.toNat * 32768 + f.fill.toNat * 16384 + f.greySel.toNat * 8192 +
      f.maskReq.toNat * 2048 + f.maskKind.toNat * 512 + f.chan.toNat * 128 + f.strat.toNat * 16 + f.op.toNat := by
  simp only [packFields, toNat_append_eq_add]
  omega

/-- R80: the fields of a word, laid back, are the word. -/
theorem packFields_commandFields (w : Word) : packFields (commandFields w) = w := by
  apply BitVec.eq_of_toNat_eq
  simp only [packFields_toNat, commandFields_op_toNat, commandFields_strat_toNat, commandFields_chan_toNat,
    commandFields_maskKind_toNat, commandFields_maskReq_toNat, commandFields_greySel_toNat, commandFields_fill_toNat,
    commandFields_reserved_toNat]
  omega

/-- Fields are equal when they are equal as numbers. -/
theorem CommandFields.ext_toNat {f g : CommandFields} (hop : f.op.toNat = g.op.toNat)
    (hstrat : f.strat.toNat = g.strat.toNat) (hchan : f.chan.toNat = g.chan.toNat)
    (hkind : f.maskKind.toNat = g.maskKind.toNat) (hreq : f.maskReq.toNat = g.maskReq.toNat)
    (hsel : f.greySel.toNat = g.greySel.toNat) (hfill : f.fill.toNat = g.fill.toNat)
    (hres : f.reserved.toNat = g.reserved.toNat) : f = g := by
  cases f
  cases g
  simp_all [BitVec.toNat_eq]

/-- R80: the fields of a packed word are the ones laid into it. -/
theorem commandFields_packFields (f : CommandFields) : commandFields (packFields f) = f := by
  have hw := packFields_toNat f
  have hop := f.op.isLt
  have hstrat := f.strat.isLt
  have hchan := f.chan.isLt
  have hkind := f.maskKind.isLt
  have hreq := f.maskReq.isLt
  have hsel := f.greySel.isLt
  have hfill := f.fill.isLt
  apply CommandFields.ext_toNat <;> simp <;> omega

/-! ## Legality -/

/-- R89: the five conditions on the fields, with the unused fields of (3) taken field by field. -/
theorem CommandFields.wellFormed_iff (f : CommandFields) :
    f.wellFormed = true ↔
      f.reserved = 0 ∧ f.op.toNat ≤ 8 ∧
      (f.op ≠ 7 → f.strat = 0) ∧
      (f.op ≠ 5 → f.op ≠ 6 → f.chan = 0) ∧
      (f.op ≠ 6 → f.maskKind = 0 ∧ f.maskReq = 0 ∧ f.greySel = 0) ∧
      (f.op ≠ 8 → f.fill = 0) ∧
      (f.op = 7 → f.strat.toNat ≤ 6) ∧
      (f.op = 6 → f.maskKind.toNat ≤ 2 ∧ f.maskReq.toNat ≤ 2) := by
  simp only [wellFormed, reservedZero, opAssigned, unusedZero, stratAssigned, maskFieldsAssigned, Bool.and_eq_true,
    Bool.or_eq_true, Bool.not_eq_true', beq_eq_false_iff_ne, beq_iff_eq, decide_eq_true_eq, or_iff_not_imp_left,
    Classical.not_imp, and_imp, and_assoc, imp_and, not_not, ne_eq]

/-- R83: every value of `CHAN` is a channel's. -/
theorem channelCode_channelOf (v : BitVec 2) : channelCode (channelOf v) = v := by
  revert v
  decide

/-- The two-bit values that are not reserved in `MASKKIND` and `MASKREQ` (R84, R85). -/
theorem two_bit_cases {v : BitVec 2} (h : v.toNat ≤ 2) : v = 0 ∨ v = 1 ∨ v = 2 := by
  revert v
  decide

/-- R84: a value of `MASKKIND` below 3 is a mask kind's. -/
theorem exists_maskKindCode_eq {v : BitVec 2} (h : v.toNat ≤ 2) : ∃ k, maskKindCode k = v := by
  rcases two_bit_cases h with rfl | rfl | rfl
  · exact ⟨.none, rfl⟩
  · exact ⟨.alpha, rfl⟩
  · exact ⟨.inverseAlpha, rfl⟩

/-- R85: a value of `MASKREQ` below 3 is a request's. -/
theorem exists_maskReqCode_eq {v : BitVec 2} (h : v.toNat ≤ 2) : ∃ q, maskReqCode q = v := by
  rcases two_bit_cases h with rfl | rfl | rfl
  · exact ⟨.unspecified, rfl⟩
  · exact ⟨.light, rfl⟩
  · exact ⟨.dark, rfl⟩

/-- R86: every value of `GREYSEL` is a selector's. -/
theorem greySelCode_greySelOf (v : BitVec 1) : greySelCode (greySelOf v) = v := by
  revert v
  decide

/-- R87: every value of `FILL` is a fill mode's. -/
theorem fillModeCode_fillModeOf (v : BitVec 1) : fillModeCode (fillModeOf v) = v := by
  revert v
  decide

/-- R83: the fields of `BOFF` at any value of `CHAN`. -/
theorem instrFields_boff (v : BitVec 2) : instrFields (.boff (channelOf v)) = { opFields 5 with chan := v } := by
  rw [instrFields, channelCode_channelOf]

/-- R87: the fields of `ENCODE` at any value of `FILL`. -/
theorem instrFields_encode (v : BitVec 1) :
    instrFields (.encode (fillModeOf v)) = { opFields 8 with fill := v } := by
  rw [instrFields, fillModeCode_fillModeOf]

/-- R82: a value of `STRAT` below 7 is a strategy's. -/
theorem exists_blend_fields {v : BitVec 3} (h : v.toNat ≤ 6) :
    ∃ i, instrFields i = { opFields 7 with strat := v } := by
  have hcases : ∀ v : BitVec 3, v.toNat ≤ 6 → v = 0 ∨ v = 1 ∨ v = 2 ∨ v = 3 ∨ v = 4 ∨ v = 5 ∨ v = 6 := by decide
  rcases hcases v h with rfl | rfl | rfl | rfl | rfl | rfl | rfl
  · exact ⟨.blendLight, rfl⟩
  · exact ⟨.blendLMask, rfl⟩
  · exact ⟨.blendDark, rfl⟩
  · exact ⟨.blendDMask, rfl⟩
  · exact ⟨.blendMComp, rfl⟩
  · exact ⟨.blendCAvg, rfl⟩
  · exact ⟨.blendDmab, rfl⟩

/-- The fields of an `EXTRACT` word with no reserved value are an operation's (R83 to R86). -/
theorem exists_extract_fields (c : BitVec 2) {k q : BitVec 2} (g : BitVec 1) (hk : k.toNat ≤ 2) (hq : q.toNat ≤ 2) :
    ∃ c' k' q' g', instrFields (.extract c' k' q' g') =
      { opFields 6 with chan := c, maskKind := k, maskReq := q, greySel := g } := by
  obtain ⟨k', rfl⟩ := exists_maskKindCode_eq hk
  obtain ⟨q', rfl⟩ := exists_maskReqCode_eq hq
  refine ⟨channelOf c, k', q', greySelOf g, ?_⟩
  rw [instrFields, channelCode_channelOf, greySelCode_greySelOf]

/-- R89 (1), (3): a legal word of an operation without fields is its `OP` alone. -/
theorem CommandFields.eq_opFields {f : CommandFields} (h : f.wellFormed = true) (hop : f.op.toNat ≤ 4) :
    f = opFields f.op := by
  obtain ⟨hres, -, hstrat, hchan, hmask, hfill, -, -⟩ := f.wellFormed_iff.mp h
  have hne : ∀ k : BitVec 4, 4 < k.toNat → f.op ≠ k := by
    rintro k hk rfl
    omega
  cases f
  simp_all [opFields]

/-- R89 (1), (3): a legal `BOFF` word is its `OP` and `CHAN`. -/
theorem CommandFields.eq_boffFields {f : CommandFields} (h : f.wellFormed = true) (hop : f.op = 5) :
    f = { opFields 5 with chan := f.chan } := by
  obtain ⟨hres, -, hstrat, -, hmask, hfill, -, -⟩ := f.wellFormed_iff.mp h
  cases f
  simp_all [opFields]

/-- R89 (1), (3): a legal `EXTRACT` word is its `OP` and its four fields. -/
theorem CommandFields.eq_extractFields {f : CommandFields} (h : f.wellFormed = true) (hop : f.op = 6) :
    f = { opFields 6 with chan := f.chan, maskKind := f.maskKind, maskReq := f.maskReq, greySel := f.greySel } := by
  obtain ⟨hres, -, hstrat, -, -, hfill, -, -⟩ := f.wellFormed_iff.mp h
  cases f
  simp_all [opFields]

/-- R89 (1), (3): a legal `BLEND` word is its `OP` and `STRAT`. -/
theorem CommandFields.eq_blendFields {f : CommandFields} (h : f.wellFormed = true) (hop : f.op = 7) :
    f = { opFields 7 with strat := f.strat } := by
  obtain ⟨hres, -, -, hchan, hmask, hfill, -, -⟩ := f.wellFormed_iff.mp h
  cases f
  simp_all [opFields]

/-- R89 (1), (3): a legal `ENCODE` word is its `OP` and `FILL`. -/
theorem CommandFields.eq_encodeFields {f : CommandFields} (h : f.wellFormed = true) (hop : f.op = 8) :
    f = { opFields 8 with fill := f.fill } := by
  obtain ⟨hres, -, hstrat, hchan, hmask, -, -, -⟩ := f.wellFormed_iff.mp h
  cases f
  simp_all [opFields]

/-- R89: legal fields are an operation's. -/
theorem exists_instrFields_eq {f : CommandFields} (h : f.wellFormed = true) : ∃ i, instrFields i = f := by
  obtain ⟨-, hop, -, -, -, -, hstrat, hmask⟩ := f.wellFormed_iff.mp h
  have hcases : ∀ v : BitVec 4, v.toNat ≤ 8 →
      v = 0 ∨ v = 1 ∨ v = 2 ∨ v = 3 ∨ v = 4 ∨ v = 5 ∨ v = 6 ∨ v = 7 ∨ v = 8 := by decide
  have hplain : ∀ v : BitVec 4, f.op = v → v.toNat ≤ 4 → opFields v = f := by
    rintro v rfl hle
    exact (CommandFields.eq_opFields h hle).symm
  rcases hcases f.op hop with h0 | h1 | h2 | h3 | h4 | h5 | h6 | h7 | h8
  · exact ⟨.nop, hplain 0 h0 (by decide)⟩
  · exact ⟨.dec565, hplain 1 h1 (by decide)⟩
  · exact ⟨.enc565, hplain 2 h2 (by decide)⟩
  · exact ⟨.greyAvg, hplain 3 h3 (by decide)⟩
  · exact ⟨.greyLum, hplain 4 h4 (by decide)⟩
  · rw [CommandFields.eq_boffFields h h5]
    exact ⟨.boff (channelOf f.chan), instrFields_boff f.chan⟩
  · obtain ⟨hkind, hreq⟩ := hmask h6
    rw [CommandFields.eq_extractFields h h6]
    obtain ⟨c, k, q, g, hi⟩ := exists_extract_fields f.chan f.greySel hkind hreq
    exact ⟨.extract c k q g, hi⟩
  · rw [CommandFields.eq_blendFields h h7]
    exact exists_blend_fields (hstrat h7)
  · rw [CommandFields.eq_encodeFields h h8]
    exact ⟨.encode (fillModeOf f.fill), instrFields_encode f.fill⟩

/-! ## What the decoder accepts -/

/-- R89 (3): an operation with no field accepts no other bit. -/
theorem decodePlain_eq_ok {f : CommandFields} {i j : Instr} (h : decodePlain f i = .ok j) :
    f.strat = 0 ∧ f.chan = 0 ∧ f.maskKind = 0 ∧ f.maskReq = 0 ∧ f.greySel = 0 ∧ f.fill = 0 := by
  unfold decodePlain at h
  split_ifs at h with hzero
  exact hzero

/-- R89 (3): `BOFF` accepts `CHAN` only. -/
theorem decodeBoff_eq_ok {f : CommandFields} {j : Instr} (h : decodeBoff f = .ok j) :
    f.strat = 0 ∧ f.maskKind = 0 ∧ f.maskReq = 0 ∧ f.greySel = 0 ∧ f.fill = 0 := by
  unfold decodeBoff at h
  split_ifs at h with hzero
  exact hzero

/-- R84: the decoder reads no reserved mask kind. -/
theorem maskKindOf_le {v : BitVec 2} {k : MaskKind} (h : maskKindOf v = some k) : v.toNat ≤ 2 := by
  have hle : ∀ v : BitVec 2, (maskKindOf v).isSome → v.toNat ≤ 2 := by decide
  exact hle v (by simp [h])

/-- R85: the decoder reads no reserved request. -/
theorem maskReqOf_le {v : BitVec 2} {q : MaskReq} (h : maskReqOf v = some q) : v.toNat ≤ 2 := by
  have hle : ∀ v : BitVec 2, (maskReqOf v).isSome → v.toNat ≤ 2 := by decide
  exact hle v (by simp [h])

/-- R82: the decoder reads no reserved strategy. -/
theorem blendOf_le {v : BitVec 3} {i : Instr} (h : blendOf v = some i) : v.toNat ≤ 6 := by
  have hle : ∀ v : BitVec 3, (blendOf v).isSome → v.toNat ≤ 6 := by decide
  exact hle v (by simp [h])

/-- R89 (3), (5): `EXTRACT` accepts its four fields, with no reserved value. -/
theorem decodeExtract_eq_ok {f : CommandFields} {j : Instr} (h : decodeExtract f = .ok j) :
    (f.strat = 0 ∧ f.fill = 0) ∧ f.maskKind.toNat ≤ 2 ∧ f.maskReq.toNat ≤ 2 := by
  unfold decodeExtract at h
  split_ifs at h with hzero
  split at h
  next => cases h
  next k hk =>
    split at h
    next => cases h
    next q hq => exact ⟨hzero, maskKindOf_le hk, maskReqOf_le hq⟩

/-- R89 (3), (4): `BLEND` accepts `STRAT` only, with no reserved value. -/
theorem decodeBlend_eq_ok {f : CommandFields} {j : Instr} (h : decodeBlend f = .ok j) :
    (f.chan = 0 ∧ f.maskKind = 0 ∧ f.maskReq = 0 ∧ f.greySel = 0 ∧ f.fill = 0) ∧ f.strat.toNat ≤ 6 := by
  unfold decodeBlend at h
  split_ifs at h with hzero
  split at h
  next => cases h
  next i hi => exact ⟨hzero, blendOf_le hi⟩

/-- R89 (3): `ENCODE` accepts `FILL` only. -/
theorem decodeEncode_eq_ok {f : CommandFields} {j : Instr} (h : decodeEncode f = .ok j) :
    f.strat = 0 ∧ f.chan = 0 ∧ f.maskKind = 0 ∧ f.maskReq = 0 ∧ f.greySel = 0 := by
  unfold decodeEncode at h
  split_ifs at h with hzero
  exact hzero

/-- R89: the decoder accepts no word with illegal fields. -/
theorem wellFormed_of_decode {w : Word} {i : Instr} (h : decode w = .ok i) : (commandFields w).wellFormed = true := by
  rw [CommandFields.wellFormed_iff]
  unfold decode at h
  generalize commandFields w = f at h ⊢
  simp only at h
  split_ifs at h with hres
  have hop : ∀ k : BitVec 4, f.op.toNat = k.toNat → f.op = k := fun k => BitVec.eq_of_toNat_eq
  replace hres : f.reserved = 0 := not_not.mp hres
  split at h
  next h0 => simp [hres, hop 0 h0, decodePlain_eq_ok h]
  next h1 => simp [hres, hop 1 h1, decodePlain_eq_ok h]
  next h2 => simp [hres, hop 2 h2, decodePlain_eq_ok h]
  next h3 => simp [hres, hop 3 h3, decodePlain_eq_ok h]
  next h4 => simp [hres, hop 4 h4, decodePlain_eq_ok h]
  next h5 => simp [hres, hop 5 h5, decodeBoff_eq_ok h]
  next h6 => simp [hres, hop 6 h6, decodeExtract_eq_ok h]
  next h7 => simp [hres, hop 7 h7, decodeBlend_eq_ok h]
  next h8 => simp [hres, hop 8 h8, decodeEncode_eq_ok h]
  next => cases h

/-- R81 to R87: an operation's own word decodes to it. -/
theorem decode_encode (i : Instr) : decode (encode i) = .ok i := by
  cases i with
  | boff c => cases c <;> rfl
  | extract c k q g => cases c <;> cases k <;> cases q <;> cases g <;> rfl
  | encode f => cases f <;> rfl
  | _ => rfl

/-- R80: fields are an operation's exactly when the word is. -/
theorem commandFields_eq_instrFields_iff {w : Word} {i : Instr} : commandFields w = instrFields i ↔ w = encode i := by
  constructor
  · intro h
    rw [encode, ← h, packFields_commandFields]
  · rintro rfl
    exact commandFields_packFields _

/-- R89: a word with legal fields is an operation's. -/
theorem exists_encode_eq {w : Word} (h : (commandFields w).wellFormed = true) : ∃ i, w = encode i := by
  obtain ⟨i, hi⟩ := exists_instrFields_eq h
  exact ⟨i, commandFields_eq_instrFields_iff.mp hi.symm⟩

/-- R80 to R91: decoding inverts encoding. A decoded word is some operation's own word, and that word decodes to no
other operation. -/
theorem decode_eq_ok_iff (w : Word) (i : Instr) : decode w = .ok i ↔ w = encode i := by
  constructor
  · intro h
    obtain ⟨j, rfl⟩ := exists_encode_eq (wellFormed_of_decode h)
    rw [decode_encode] at h
    cases h
    rfl
  · rintro rfl
    exact decode_encode i

/-- Settles O1: the two directions of `decode_eq_ok_iff`. -/
theorem decodeInvertsEncodeExactly : Obligations.DecodeInvertsEncodeExactly := by
  unfold Obligations.DecodeInvertsEncodeExactly
  exact decode_eq_ok_iff

/-- R89: a word is an operation exactly when its fields are legal. -/
theorem exists_decode_iff (w : Word) : (∃ i, decode w = .ok i) ↔ (commandFields w).wellFormed = true := by
  constructor
  · rintro ⟨i, h⟩
    exact wellFormed_of_decode h
  · intro h
    obtain ⟨i, hi⟩ := exists_encode_eq h
    exact ⟨i, (decode_eq_ok_iff w i).mpr hi⟩

/-- Settles O3: the second clause is the first at the operation's own word. -/
theorem decoderAcceptsTheWellFormedWords : Obligations.DecoderAcceptsTheWellFormedWords := by
  unfold Obligations.DecoderAcceptsTheWellFormedWords
  exact ⟨exists_decode_iff, fun i => wellFormed_of_decode (decode_encode i)⟩

/-- R89: legality on the bits of the word. -/
theorem wellFormed_commandFields_iff (w : Word) :
    (commandFields w).wellFormed = true ↔
      w.toNat / 32768 = 0 ∧ w.toNat % 16 ≤ 8 ∧
      (w.toNat % 16 ≠ 7 → w.toNat / 16 % 8 = 0) ∧
      (w.toNat % 16 ≠ 5 → w.toNat % 16 ≠ 6 → w.toNat / 128 % 4 = 0) ∧
      (w.toNat % 16 ≠ 6 → w.toNat / 512 % 4 = 0 ∧ w.toNat / 2048 % 4 = 0 ∧ w.toNat / 8192 % 2 = 0) ∧
      (w.toNat % 16 ≠ 8 → w.toNat / 16384 % 2 = 0) ∧
      (w.toNat % 16 = 7 → w.toNat / 16 % 8 ≤ 6) ∧
      (w.toNat % 16 = 6 → w.toNat / 512 % 4 ≤ 2 ∧ w.toNat / 2048 % 4 ≤ 2) := by
  simp only [CommandFields.wellFormed_iff, BitVec.toNat_eq, commandFields_op_toNat, commandFields_strat_toNat,
    commandFields_chan_toNat, commandFields_maskKind_toNat, commandFields_maskReq_toNat, commandFields_greySel_toNat,
    commandFields_fill_toNat, commandFields_reserved_toNat, BitVec.reduceToNat, ne_eq]

/-- R89 (5): a word of `OP` 6 with a reserved mask kind or request is no operation's. -/
theorem decode_ne_ok_of_reserved {w : Word} (hop : w.toNat % 16 = 6)
    (hres : w.toNat / 512 % 4 = 3 ∨ w.toNat / 2048 % 4 = 3) (i : Instr) : decode w ≠ .ok i := by
  intro h
  obtain ⟨-, -, -, -, -, -, -, hmask⟩ := (wellFormed_commandFields_iff w).mp (wellFormed_of_decode h)
  have hle := hmask hop
  omega

/-! ## The rows of the opcode table -/

/-- The fields of an operation with the free fields of its row (R90) taken from `f`. -/
def rowFields : Instr → CommandFields → CommandFields
  | .boff _, f => { opFields 5 with chan := f.chan }
  | .extract _ _ _ _, f =>
    { opFields 6 with chan := f.chan, maskKind := f.maskKind, maskReq := f.maskReq, greySel := f.greySel }
  | .encode _, f => { opFields 8 with fill := f.fill }
  | i, _ => instrFields i

/-- Every bit of every field. -/
def onesFields : CommandFields where
  op := .allOnes 4
  strat := .allOnes 3
  chan := .allOnes 2
  maskKind := .allOnes 2
  maskReq := .allOnes 2
  greySel := .allOnes 1
  fill := .allOnes 1
  reserved := .allOnes 17

/-- The fields a row's mask leaves out are the free ones. -/
def rowMask : Instr → CommandFields
  | .boff _ => { onesFields with chan := 0 }
  | .extract _ _ _ _ => { onesFields with chan := 0, maskKind := 0, maskReq := 0, greySel := 0 }
  | .encode _ => { onesFields with fill := 0 }
  | _ => onesFields

/-- The bitwise AND, field by field. -/
def CommandFields.and (f m : CommandFields) : CommandFields where
  op := f.op &&& m.op
  strat := f.strat &&& m.strat
  chan := f.chan &&& m.chan
  maskKind := f.maskKind &&& m.maskKind
  maskReq := f.maskReq &&& m.maskReq
  greySel := f.greySel &&& m.greySel
  fill := f.fill &&& m.fill
  reserved := f.reserved &&& m.reserved

/-- The bitwise AND of two words is that of their fields. -/
theorem packFields_and (f m : CommandFields) : packFields f &&& packFields m = packFields (f.and m) := by
  simp only [packFields, CommandFields.and, ← BitVec.and_append]

/-- R90: the mask column. -/
theorem opcodeRow_mask (i : Instr) : (opcodeRow i).mask = packFields (rowMask i) := by
  apply BitVec.eq_of_toNat_eq
  rw [packFields_toNat]
  cases i <;> simp only [opcodeRow, rowMask, onesFields, BitVec.toNat_allOnes, BitVec.reduceToNat]

/-- R90: the match column holds the `OP` and `STRAT` of the operation. -/
theorem opcodeRow_matchWord (i : Instr) :
    (opcodeRow i).matchWord = packFields { opFields (instrFields i).op with strat := (instrFields i).strat } := by
  cases i <;> (simp only [opcodeRow, instrFields]; rfl)

/-- R80: a word has one set of fields. -/
theorem packFields_inj {f g : CommandFields} : packFields f = packFields g ↔ f = g :=
  ⟨fun h => by rw [← commandFields_packFields f, h, commandFields_packFields], congrArg packFields⟩

/-- R90: a word selects a row exactly when its fields, besides the free ones, are the row's. -/
theorem selects_iff (i : Instr) (w : Word) :
    (opcodeRow i).selects w = true ↔ commandFields w = rowFields i (commandFields w) := by
  rw [OpcodeRow.selects, beq_iff_eq, opcodeRow_mask, opcodeRow_matchWord]
  conv_lhs => rw [← packFields_commandFields w]
  rw [packFields_and, packFields_inj]
  generalize commandFields w = f
  cases f
  cases i <;>
    simp only [CommandFields.and, rowMask, rowFields, instrFields, opFields, onesFields, BitVec.and_allOnes,
      BitVec.ofNat_eq_ofNat, BitVec.and_zero, CommandFields.mk.injEq, true_and]

/-- R90: the free fields of its row do not tell an operation's fields apart. -/
theorem rowFields_instrFields (i : Instr) : rowFields i (instrFields i) = instrFields i := by
  cases i <;> rfl

/-- R90: an operation's word selects its row. -/
theorem selects_of_decode {w : Word} {i : Instr} (h : decode w = .ok i) : (opcodeRow i).selects w = true := by
  have hf : commandFields w = instrFields i := commandFields_eq_instrFields_iff.mpr ((decode_eq_ok_iff w i).mp h)
  rw [selects_iff, hf, rowFields_instrFields]

/-- R80: a word whose fields are an operation's decodes to it. -/
theorem decode_of_fields {w : Word} {i : Instr} (h : commandFields w = instrFields i) : decode w = .ok i :=
  (decode_eq_ok_iff w i).mpr (commandFields_eq_instrFields_iff.mp h)

/-- R89 (5), R90: the words of the `EXTRACT` row are operations, or hold a reserved mask kind or request. -/
theorem extract_row_cases {w : Word} {c : Channel} {k : MaskKind} {q : MaskReq} {g : GreySel}
    (h : (opcodeRow (.extract c k q g)).selects w = true) :
    (∃ c' k' q' g', decode w = .ok (.extract c' k' q' g')) ∨
      (w.toNat / 512 % 4 = 3 ∨ w.toNat / 2048 % 4 = 3) ∧ ∀ j, decode w ≠ .ok j := by
  rw [selects_iff, rowFields] at h
  by_cases hres : w.toNat / 512 % 4 = 3 ∨ w.toNat / 2048 % 4 = 3
  · have hop : (commandFields w).op = 6 := by rw [h]; rfl
    have hop' : w.toNat % 16 = 6 := by rw [← commandFields_op_toNat, hop]; rfl
    exact .inr ⟨hres, decode_ne_ok_of_reserved hop' hres⟩
  · obtain ⟨c', k', q', g', hi⟩ :=
      exists_extract_fields (commandFields w).chan (k := (commandFields w).maskKind)
        (q := (commandFields w).maskReq) (commandFields w).greySel
        (by rw [commandFields_maskKind_toNat]; omega) (by rw [commandFields_maskReq_toNat]; omega)
    exact .inl ⟨c', k', q', g', decode_of_fields (h.trans hi.symm)⟩

/-- R90: a word that selects a row has the `OP` and `STRAT` of the row's match word. -/
theorem matchWord_of_selects {w : Word} {i : Instr} (h : (opcodeRow i).selects w = true) :
    (opcodeRow i).matchWord =
      packFields { opFields (commandFields w).op with strat := (commandFields w).strat } := by
  rw [selects_iff] at h
  rw [opcodeRow_matchWord, h]
  cases i <;> rfl

/-- R90: the match word of a row, with every free field 0, is an operation of the row. -/
theorem decode_matchWord (i : Instr) :
    ∃ j, decode (opcodeRow i).matchWord = .ok j ∧ opcodeRow j = opcodeRow i := by
  cases i with
  | boff c => exact ⟨.boff .light, decode_encode (.boff .light), rfl⟩
  | extract c k q g =>
    exact ⟨.extract .light .none .unspecified .averaged,
      decode_encode (.extract .light .none .unspecified .averaged), rfl⟩
  | encode f => exact ⟨.encode .zeroFill, decode_encode (.encode .zeroFill), rfl⟩
  | _ => exact ⟨_, rfl, rfl⟩

/-- R90: two rows with one match word are one row. -/
theorem opcodeRow_eq_of_matchWord {i j : Instr} (h : (opcodeRow i).matchWord = (opcodeRow j).matchWord) :
    opcodeRow i = opcodeRow j := by
  obtain ⟨i', hi, hrow⟩ := decode_matchWord i
  obtain ⟨j', hj, hrow'⟩ := decode_matchWord j
  rw [h, hj] at hi
  cases hi
  exact hrow.symm.trans hrow'

/-- Settles O4: a word's fields besides the free ones are the row's, and they fix the row's match word. -/
theorem opcodeRowsSelectTheOperations : Obligations.OpcodeRowsSelectTheOperations := by
  unfold Obligations.OpcodeRowsSelectTheOperations
  intro w
  refine ⟨fun i => selects_of_decode, fun i hsel => ?_, fun i j hi hj => ?_⟩
  · have hfields := (selects_iff i w).mp hsel
    cases i with
    | boff c => exact .inl ⟨_, decode_of_fields (hfields.trans (instrFields_boff _).symm), rfl⟩
    | encode f => exact .inl ⟨_, decode_of_fields (hfields.trans (instrFields_encode _).symm), rfl⟩
    | extract c k q g =>
      rcases extract_row_cases hsel with ⟨c', k', q', g', hdec⟩ | hillegal
      · exact .inl ⟨_, hdec, rfl⟩
      · exact .inr ⟨rfl, hillegal⟩
    | _ =>
      simp only [rowFields] at hfields
      exact .inl ⟨_, decode_of_fields hfields, rfl⟩
  · exact opcodeRow_eq_of_matchWord ((matchWord_of_selects hi).trans (matchWord_of_selects hj).symm)

/-- Settles O5, each word by evaluation. -/
theorem workedEncodingsDecode : Obligations.WorkedEncodingsDecode := by
  unfold Obligations.WorkedEncodingsDecode
  decide

end Sys2Proof

namespace Sys2Proof.Machine

/-! ## Illegal words and idle mask fields -/

/-- R89, R204 (a): an illegal word enters ParamError. -/
theorem runCommand_of_illegal {w : Word} (h : ∀ i, decode w ≠ .ok i) (s : State) :
    runCommand w s = .next (raiseError .param s) := by
  unfold runCommand
  split
  next i hdec => exact absurd hdec (h i)
  next => rfl

/-- Settles O2: the conditions are those of `wellFormed` on the bits, and an idle block runs an illegal word as an
error entry. -/
theorem legalWordsRunOthersEndInParamError : Obligations.LegalWordsRunOthersEndInParamError := by
  unfold Obligations.LegalWordsRunOthersEndInParamError
  intro w
  refine ⟨(exists_decode_iff w).trans (wellFormed_commandFields_iff w), fun hillegal s rest hidle hhost => ?_⟩
  rw [step_command_of_idle hidle hhost, runCommand_of_illegal hillegal]
  rfl

/-- R132: without a mask kind every pixel is opaque. -/
theorem extractAlpha_none (c : Channel) (q : MaskReq) (g : GreySel) (pb : List Host.Cell) (n : Nat) :
    extractAlpha c .none q g pb n = 255 := by
  unfold extractAlpha
  cases maskOffset c q <;> rfl

/-- R91: without a mask kind the image does not depend on the request or the selector. -/
theorem extractPixel_none_congr (c : Channel) (q q' : MaskReq) (g g' : GreySel) :
    extractPixel c .none q g = extractPixel c .none q' g' := by
  funext pb n
  rw [extractPixel, extractPixel, extractAlpha_none, extractAlpha_none]

/-- Settles O22: the request and the selector reach `EXTRACT` through its pixel only, and a reserved request is never
decoded. -/
theorem maskFieldsIdleWithoutMask : Obligations.MaskFieldsIdleWithoutMask := by
  unfold Obligations.MaskFieldsIdleWithoutMask
  refine ⟨fun c q q' g g' s => ?_, fun w hop hreq => decode_ne_ok_of_reserved hop (.inr hreq)⟩
  simp only [exec, execExtract, extractPixel_none_congr c q q' g g']

/-! ## The micro-steps of a command

From the state START leaves, the block makes CHECK, FILL if the work asks for it, a PIXEL for each group, and FINISH,
and stays BUSY until the last of them (R241 to R244). -/

/-- The block goes from `s` to `t` in `n` micro-steps and is BUSY before each of them. -/
inductive BusyRun (s : State) : Nat → State → Prop where
  | start : BusyRun s 0 s
  | move {n : Nat} {t : State} : BusyRun s n t → t.busy = true → BusyRun s (n + 1) (blockStep t)

/-- The state of phase RUN after the PIXEL steps of `g` groups (R243); `s` is the state that enters the phase. -/
def afterPixels (s : State) (g : Nat) : Work → State
  | .atOnce _ => s
  | .raster pixel => { s with px := Memory.storeRange (pixel s.pb) g s.px, gidx := BitVec.ofNat 32 g }
  | .encoder _ => { s with pb := encodePixels s.px g s.pb, gidx := BitVec.ofNat 32 g }

/-- PIXEL steps write a memory and `GIDX` only (R243). -/
theorem afterPixels_frame (s : State) (g : Nat) (work : Work) :
    afterPixels s g work = { s with
      pb := (afterPixels s g work).pb, px := (afterPixels s g work).px, gidx := (afterPixels s g work).gidx } := by
  cases work <;> rfl

/-- At the start of phase RUN no group is done (R243). -/
theorem afterPixels_zero {s : State} (hgidx : s.gidx = 0) (work : Work) : afterPixels s 0 work = s := by
  cases work with
  | atOnce => rfl
  | raster | encoder => cases s; cases hgidx; rfl

/-- The PIXEL of group `g` follows those of the groups before it (R243). -/
theorem pixelStep_afterPixels (s : State) (g : Nat) (work : Work) :
    pixelStep (afterPixels s g work) g work = afterPixels s (g + 1) work := by
  cases work <;> rfl

/-- `GIDX` counts the groups done (R243). -/
theorem afterPixels_gidx (s : State) (g : Nat) {work : Work} (hloop : work.isLoop = true) :
    (afterPixels s g work).gidx = BitVec.ofNat 32 g := by
  cases work with
  | atOnce => simp [Work.isLoop] at hloop
  | raster | encoder => rfl

/-- The work of an operation with a loop does not depend on the state it starts in (R243). -/
theorem operationWork_congr {i : Instr} {s : State} (hloop : (operationWork i s).isLoop = true) (t : State) :
    operationWork i t = operationWork i s := by
  cases i with
  | nop | dec565 | enc565 | greyAvg | greyLum | boff => simp [operationWork, Work.isLoop] at hloop
  | _ => rfl

/-- What START leaves for a legal word whose checks pass, up to the first group (R240, R241). -/
structure Passed (i : Instr) (s : State) : Prop where
  busy : s.busy = true
  decoded : decode s.lat.cmd = .ok i
  checked : operationCheck i s = none
  gidx : s.gidx = 0

/-- A state that enters phase RUN (R241, R242). -/
structure LoopEntry (i : Instr) (s : State) : Prop extends Passed i s where
  phase : s.phase = .run
  isLoop : (operationWork i s).isLoop = true

/-- The micro-step of phase RUN after `g` groups: PIXEL while groups remain, then FINISH (R243, R244). -/
theorem LoopEntry.blockStep_afterPixels {i : Instr} {s : State} (hs : LoopEntry i s) {g : Nat}
    (hg : g ≤ workCount s.lat (operationWork i s)) :
    blockStep (afterPixels s g (operationWork i s)) =
      if g < workCount s.lat (operationWork i s) then afterPixels s (g + 1) (operationWork i s)
      else finishStep (afterPixels s g (operationWork i s)) (operationWork i s) := by
  have hcount := workCount_lt hs.checked
  have hgidx : (afterPixels s g (operationWork i s)).gidx.toNat = g := by
    rw [afterPixels_gidx s g hs.isLoop, BitVec.toNat_ofNat, Nat.mod_eq_of_lt (by omega)]
  have hlat : (afterPixels s g (operationWork i s)).lat = s.lat := by rw [afterPixels_frame]
  have hphase : (afterPixels s g (operationWork i s)).phase = .run := by rw [afterPixels_frame, hs.phase]
  have hwork := operationWork_congr hs.isLoop (afterPixels s g (operationWork i s))
  rw [blockStep, hphase]
  simp only [runStep, hlat, hs.decoded, hwork, hgidx, pixelStep_afterPixels]

/-- The loop: a PIXEL for each group, BUSY all along (R243). -/
theorem LoopEntry.busyRun_pixels {i : Instr} {s u : State} {n : Nat} (hs : LoopEntry i s) (hrun : BusyRun u n s)
    (g : Nat) (hg : g ≤ workCount s.lat (operationWork i s)) :
    BusyRun u (n + g) (afterPixels s g (operationWork i s)) := by
  induction g with
  | zero =>
    rw [afterPixels_zero hs.gidx]
    exact hrun
  | succ g ih =>
    have hbusy : (afterPixels s g (operationWork i s)).busy = true := by
      rw [afterPixels_frame]
      exact hs.busy
    have hstep := hs.blockStep_afterPixels (g := g) (by omega)
    rw [if_pos (by omega)] at hstep
    rw [← hstep]
    exact (ih (by omega)).move hbusy

/-- The loop and its FINISH (R243, R244). -/
theorem LoopEntry.busyRun_finish {i : Instr} {s u : State} {n : Nat} (hs : LoopEntry i s) (hrun : BusyRun u n s) :
    BusyRun u (n + workCount s.lat (operationWork i s) + 1)
      (finishStep (afterPixels s (workCount s.lat (operationWork i s)) (operationWork i s)) (operationWork i s)) := by
  have hbusy : (afterPixels s (workCount s.lat (operationWork i s)) (operationWork i s)).busy = true := by
    rw [afterPixels_frame]
    exact hs.busy
  have hstep := hs.blockStep_afterPixels le_rfl
  rw [if_neg (lt_irrefl _)] at hstep
  rw [← hstep]
  exact (hs.busyRun_pixels hrun _ le_rfl).move hbusy

/-- A passed CHECK begins the work (R241). -/
theorem Passed.blockStep_check {i : Instr} {s : State} (hs : Passed i s) (hphase : s.phase = .check) :
    blockStep s = beginWork s (operationWork i s) := by
  simp only [blockStep, hphase, checkStep, hs.decoded, hs.checked, conclude_none]

/-- CHECK, and FILL with its zeroed PB, lead to a state that enters phase RUN (R241, R242). -/
theorem Passed.loopEntry {i : Instr} {s : State} (hs : Passed i s) (hloop : (operationWork i s).isLoop = true)
    (pb : List Host.Cell) : LoopEntry i { s with pb := pb, phase := .run } where
  busy := hs.busy
  decoded := hs.decoded
  checked := hs.checked ▸ operationCheck_congr i rfl rfl
  gidx := hs.gidx
  phase := rfl
  isLoop := operationWork_congr hloop _ ▸ hloop

/-- The loop of a command whose phase RUN is entered with the bytes `pb` in PB, by the work it was started with. -/
theorem Passed.busyRun_loop {i : Instr} {s u : State} {n : Nat} (hs : Passed i s)
    (hloop : (operationWork i s).isLoop = true) (pb : List Host.Cell)
    (hrun : BusyRun u n { s with pb := pb, phase := .run }) :
    BusyRun u (n + workCount s.lat (operationWork i s) + 1)
      (finishStep (afterPixels { s with pb := pb, phase := .run } (workCount s.lat (operationWork i s))
        (operationWork i s)) (operationWork i s)) := by
  have hfinish := (hs.loopEntry hloop pb).busyRun_finish hrun
  rw [operationWork_congr hloop] at hfinish
  exact hfinish

/-- R244: a command that passes its checks comes to its whole effect, within its count and three micro-steps. -/
theorem Passed.busyRun_wholeEffect {i : Instr} {s : State} (hs : Passed i s) (hphase : s.phase = .check) :
    ∃ n ≤ workCount s.lat (operationWork i s) + 3, BusyRun s n (wholeEffect i s) := by
  have hcheck : BusyRun s 1 (beginWork s (operationWork i s)) := by
    rw [← hs.blockStep_check hphase]
    exact BusyRun.start.move hs.busy
  rcases operationWork_cases i s with ⟨r0, r1, hw⟩ | ⟨p, hw, -⟩ | ⟨f, rfl⟩
  · rw [hw] at hcheck
    rw [wholeEffect, hw]
    exact ⟨1, by omega, hcheck⟩
  · have hrun := hs.busyRun_loop (by rw [hw]; rfl) s.pb (u := s) (n := 1) (by rw [hw] at hcheck; exact hcheck)
    rw [wholeEffect]
    rw [hw] at hrun ⊢
    exact ⟨_, by omega, hrun⟩
  · cases f with
    | patch => exact ⟨_, by omega, hs.busyRun_loop rfl s.pb hcheck⟩
    | zeroFill =>
      have hfill : BusyRun s 2 (fillStep { s with phase := .fill }) := hcheck.move hs.busy
      exact ⟨_, by omega, hs.busyRun_loop rfl (zeroBytes s.lat.destLen.toNat s.pb) hfill⟩

/-- The count of the command `w`, started in `s` (R32, R243). -/
def commandCount (w : Word) (s : State) : Nat :=
  match decode w with
  | .ok i => workCount (latchFor w s) (operationWork i s)
  | .error _ => 0

/-- The count of a legal word is its operation's (R32). -/
theorem commandCount_of_ok {w : Word} {i : Instr} (h : decode w = .ok i) (s : State) :
    commandCount w s = workCount (latchFor w s) (operationWork i s) := by
  simp only [commandCount, h]

/-- The count of a command does not depend on the ports. -/
theorem commandCount_withPorts (w : Word) (s : State) (host : List HostAction) (reply : Option Word) :
    commandCount w (s.withPorts host reply) = commandCount w s := by
  unfold commandCount
  split
  next i hdec => exact workCount_operationWork_congr _ i _ _
  next => rfl

/-- R89: a word is an operation or illegal. -/
theorem decode_cases (w : Word) : (∃ i, decode w = .ok i) ∨ ∀ i, decode w ≠ .ok i := by
  by_cases h : ∃ i, decode w = .ok i
  · exact .inl h
  · exact .inr (not_exists.mp h)

/-- An error of CHECK ends the command at once (R206, R241). -/
theorem busyRun_raiseError {s : State} {e : ErrorClass} (hbusy : s.busy = true) (hstep : blockStep s = raiseError e s) :
    BusyRun s 1 (raiseError e s) := by
  rw [← hstep]
  exact BusyRun.start.move hbusy

/-- R241: CHECK of an illegal word. -/
theorem blockStep_of_illegal {s : State} (hphase : s.phase = .check) (h : ∀ i, decode s.lat.cmd ≠ .ok i) :
    blockStep s = raiseError .param s := by
  simp only [blockStep, hphase, checkStep]
  split
  next => rfl
  next i hdec => exact absurd hdec (h i)

/-- R241: CHECK of an operation that fails. -/
theorem blockStep_of_failed {s : State} {i : Instr} {e : ErrorClass} (hphase : s.phase = .check)
    (hdec : decode s.lat.cmd = .ok i) (hfail : operationCheck i s = some e) : blockStep s = raiseError e s := by
  simp only [blockStep, hphase, checkStep, hdec, hfail, conclude_some]

/-- R244, R249: from START the micro-steps reach the atomic result of the command, within its count and three. -/
theorem busyRun_startCommand (w : Word) (s : State) :
    ∃ n t, n ≤ commandCount w s + 3 ∧ runCommand w (startCommand w s) = .next t ∧
      BusyRun (startCommand w s) n t := by
  have hbusy : (startCommand w s).busy = true := (busy_iff _).mpr statusState_busy
  rcases decode_cases w with ⟨i, hdec⟩ | hillegal
  · rw [runCommand_of_decode_ok hdec, exec_eq_conclude]
    rcases conclude_cases (operationCheck i (startCommand w s)) (wholeEffect i) (startCommand w s) with
      ⟨e, hfail, he⟩ | ⟨hchecked, he⟩
    · rw [he]
      exact ⟨1, _, by omega, rfl, busyRun_raiseError hbusy (blockStep_of_failed rfl hdec hfail)⟩
    · have hpassed : Passed i (startCommand w s) := ⟨hbusy, hdec, hchecked, rfl⟩
      obtain ⟨n, hn, hrun⟩ := hpassed.busyRun_wholeEffect rfl
      have hcount : workCount (startCommand w s).lat (operationWork i (startCommand w s)) = commandCount w s := by
        rw [commandCount_of_ok hdec]
        exact workCount_operationWork_congr _ i _ _
      rw [he]
      exact ⟨n, _, hcount ▸ hn, rfl, hrun⟩
  · rw [runCommand_of_illegal hillegal]
    exact ⟨1, _, by omega, rfl, busyRun_raiseError hbusy (blockStep_of_illegal rfl hillegal)⟩

/-! ## The polling loop -/

/-- The checks do not read the ports (R241). -/
theorem operationCheck_withPorts (i : Instr) (s : State) (host : List HostAction) (reply : Option Word) :
    operationCheck i (s.withPorts host reply) = operationCheck i s :=
  operationCheck_congr i rfl rfl

/-- The begin of the work neither reads nor writes the ports (R241). -/
theorem beginWork_withPorts (i : Instr) (s : State) (host : List HostAction) (reply : Option Word) :
    beginWork (s.withPorts host reply) (operationWork i (s.withPorts host reply)) =
      (beginWork s (operationWork i s)).withPorts host reply := by
  cases i with
  | encode f => cases f <;> rfl
  | _ => rfl

/-- PIXEL neither reads nor writes the ports (R243). -/
theorem pixelStep_withPorts (i : Instr) (s : State) (g : Nat) (host : List HostAction) (reply : Option Word) :
    pixelStep (s.withPorts host reply) g (operationWork i (s.withPorts host reply)) =
      (pixelStep s g (operationWork i s)).withPorts host reply := by
  cases i <;> rfl

/-- FINISH neither reads nor writes the ports (R244). -/
theorem finishStep_withPorts (i : Instr) (s : State) (host : List HostAction) (reply : Option Word) :
    finishStep (s.withPorts host reply) (operationWork i (s.withPorts host reply)) =
      (finishStep s (operationWork i s)).withPorts host reply := by
  cases i <;> rfl

/-- CHECK neither reads nor writes the ports (R241). -/
theorem checkStep_withPorts (s : State) (host : List HostAction) (reply : Option Word) :
    checkStep (s.withPorts host reply) = (checkStep s).withPorts host reply := by
  simp only [checkStep, withPorts_lat]
  split
  next => rfl
  next i hdec =>
    rw [operationCheck_withPorts]
    cases operationCheck i s with
    | some e => rfl
    | none => exact beginWork_withPorts i s host reply

/-- A step of phase RUN neither reads nor writes the ports (R243, R244). -/
theorem runStep_withPorts (s : State) (host : List HostAction) (reply : Option Word) :
    runStep (s.withPorts host reply) = (runStep s).withPorts host reply := by
  unfold runStep
  rw [withPorts_lat]
  split
  next => rfl
  next i hdec =>
    have hcount := workCount_operationWork_congr s.lat i (s.withPorts host reply) s
    by_cases hlt : s.gidx.toNat < workCount s.lat (operationWork i s)
    · rw [if_pos hlt, if_pos (hcount ▸ hlt)]
      exact pixelStep_withPorts i s _ host reply
    · rw [if_neg hlt, if_neg (hcount ▸ hlt)]
      exact finishStep_withPorts i s host reply

/-- The block reads neither the host's list nor its last reply, and keeps both (R236). -/
theorem blockStep_withPorts (s : State) (host : List HostAction) (reply : Option Word) :
    blockStep (s.withPorts host reply) = (blockStep s).withPorts host reply := by
  unfold blockStep
  rw [withPorts_phase]
  cases s.phase with
  | rest | fill => rfl
  | check => exact checkStep_withPorts s host reply
  | run => exact runStep_withPorts s host reply

/-- One turn of `wait` while a command runs: a micro-step, and the loop goes on (R92). -/
theorem step_wait_of_busy {s : State} {rest : List HostAction} (hbusy : s.busy = true)
    (hhost : s.host = .wait :: rest) : step s = .next ((blockStep s).withPorts (.wait :: rest) (some s.status)) := by
  have hbusy' : ({ s with host := rest } : State).busy = true := hbusy
  have hports : answer s.status { s with host := rest } = s.withPorts rest (some s.status) := rfl
  rw [step_cons s _ rest hhost, hostStep, hostWait, if_pos hbusy']
  simp only [hports, blockStep_withPorts]
  rfl

/-- The last turn of `wait`: `STATUS` is read and the loop ends (R92). -/
theorem step_wait_of_idle {s : State} {rest : List HostAction} (hidle : s.busy = false)
    (hhost : s.host = .wait :: rest) : step s = .next (s.withPorts rest (some s.status)) := by
  have hidle' : ({ s with host := rest } : State).busy = false := hidle
  rw [step_cons s _ rest hhost, hostStep, hostWait, hidle']
  rfl

/-- A run takes its first step. -/
theorem core_run_succ {s t : State} (h : step s = .next t) (k : Nat) :
    Host.Core.run core (k + 1) s = Host.Core.run core k t := by
  have hstep : core.step s = .next t := h
  simp only [Host.Core.run, hstep]

/-- A run goes on from the state it has come to. -/
theorem core_run_add {s t : State} {m : Nat} (h : Host.Core.run core m s = .next t) (n : Nat) :
    Host.Core.run core (m + n) s = Host.Core.run core n t := by
  induction m generalizing s with
  | zero =>
    cases h
    rw [Nat.zero_add]
  | succ m ih =>
    cases hstep : step s with
    | next u =>
      rw [core_run_succ hstep] at h
      rw [Nat.succ_add, core_run_succ hstep, ih h]
    | fault r =>
      have hstep' : core.step s = .fault r := hstep
      simp [Host.Core.run, hstep'] at h
    | refused r =>
      have hstep' : core.step s = .refused r := hstep
      simp [Host.Core.run, hstep'] at h

/-- A run of one step. -/
theorem core_run_one {s t : State} (h : step s = .next t) : Host.Core.run core 1 s = .next t := core_run_succ h 0

/-- R92: while the block is BUSY, as many turns of `wait` make as many micro-steps. -/
theorem BusyRun.run_wait {s t : State} {n : Nat} (hrun : BusyRun s n t) (rest : List HostAction) (r : Option Word) :
    ∃ r', Host.Core.run core n (s.withPorts (.wait :: rest) r) = .next (t.withPorts (.wait :: rest) r') := by
  induction hrun with
  | start => exact ⟨r, rfl⟩
  | @move n t _ hbusy ih =>
    obtain ⟨r', ih⟩ := ih
    have hturn := step_wait_of_busy (s := t.withPorts (.wait :: rest) r') hbusy rfl
    rw [blockStep_withPorts] at hturn
    exact ⟨some t.status, by rw [core_run_add ih, core_run_one hturn]; rfl⟩

/-- A command does not touch the host's list. -/
theorem runCommand_host {w : Word} {s t : State} (h : runCommand w s = .next t) : t.host = s.host := by
  rcases decode_cases w with ⟨i, hdec⟩ | hillegal
  · rw [runCommand_of_decode_ok hdec] at h
    rw [exec_frame h]
  · rw [runCommand_of_illegal hillegal] at h
    cases h
    rfl

/-- R240: a `CMD` write that finds the block idle is START. -/
theorem step_writeCmd_of_idle {s : State} {w : Word} {rest : List HostAction} (hidle : s.busy = false)
    (hhost : s.host = .writeReg 0 4 w :: rest) : step s = .next (startCommand w { s with host := rest }) := by
  rw [step_writeReg rfl hhost, hidle]
  rfl

/-- Settles O57: START, a turn of `wait` for each micro-step the command takes, and the turn that finds it ended. -/
theorem waitEndsInTheAtomicResult : Obligations.WaitEndsInTheAtomicResult := by
  unfold Obligations.WaitEndsInTheAtomicResult
  intro s w hidle
  obtain ⟨n, t, hn, hcommand, hrun⟩ := busyRun_startCommand w (s.withPorts [] s.reply)
  rw [commandCount_withPorts] at hn
  have hended : t.busy = false := by
    rw [busy_eq_false_iff]
    rcases runCommand_ends hcommand with h | h <;> simp [h]
  have hstart : step { s with host := [.writeReg 0 4 w, .wait] } =
      .next ((startCommand w (s.withPorts [] s.reply)).withPorts [.wait] s.reply) :=
    step_writeCmd_of_idle (s := { s with host := [.writeReg 0 4 w, .wait] }) hidle rfl
  obtain ⟨r, hwait⟩ := hrun.run_wait [] s.reply
  have hlast : step (t.withPorts [.wait] r) = .next (t.withPorts [] (some t.status)) :=
    step_wait_of_idle (s := t.withPorts [.wait] r) hended rfl
  have hports : t.withPorts [] (some t.status) = { t with reply := some t.status } := by
    have hhost : t.host = [] := runCommand_host hcommand
    rw [State.withPorts, ← hhost]
  refine ⟨n + 1 + 1, t, (by omega : n + 1 + 1 ≤ commandCount w s + 6), ?_, hended, ?_⟩
  · exact (step_command_of_idle (s := { s with host := [.command w] }) hidle rfl).trans hcommand
  · rw [core_run_succ hstart, core_run_add hwait, core_run_one hlast, hports]

end Sys2Proof.Machine

/-! The Channel Codec (spec/40_channel_codec.md): its four functions as numbers, the laws of packing and expansion, and
the four scalar operations. -/

namespace Sys2Proof.Machine

/-! ## The four functions as numbers -/

/-- Colours are equal when their channels are equal as numbers. -/
theorem rgb_ext_toNat {c d : Rgb} (hr : c.r.toNat = d.r.toNat) (hg : c.g.toNat = d.g.toNat)
    (hb : c.b.toNat = d.b.toNat) : c = d := by
  cases c
  cases d
  simp_all [BitVec.toNat_eq]

/-- A field put at the top of a byte, the low bits left 0 (R100): the number is multiplied and nothing is lost. -/
theorem toNat_setWidth_shiftLeft_of_le {m k : Nat} (f : BitVec m) (h : m + k ≤ 8) :
    (f.setWidth 8 <<< k).toNat = f.toNat * 2 ^ k := by
  have hfit : f.toNat * 2 ^ k < 2 ^ 8 :=
    calc f.toNat * 2 ^ k < 2 ^ m * 2 ^ k := Nat.mul_lt_mul_of_pos_right f.isLt (Nat.two_pow_pos k)
      _ = 2 ^ (m + k) := (Nat.pow_add 2 m k).symm
      _ ≤ 2 ^ 8 := Nat.pow_le_pow_right (by decide) h
  have hfield : f.toNat < 2 ^ 8 := f.isLt.trans_le (Nat.pow_le_pow_right (by decide) (by omega))
  rw [BitVec.toNat_shiftLeft, BitVec.toNat_setWidth, Nat.mod_eq_of_lt hfield, Nat.shiftLeft_eq, Nat.mod_eq_of_lt hfit]

@[simp] theorem decode565_r_toNat (w : Half) : (decode565 w).r.toNat = w.toNat / 2048 * 8 := by
  have hw := w.isLt
  rw [decode565, toNat_setWidth_shiftLeft_of_le _ (by decide), BitVec.extractLsb'_toNat, Nat.shiftRight_eq_div_pow]
  omega

@[simp] theorem decode565_g_toNat (w : Half) : (decode565 w).g.toNat = w.toNat / 32 % 64 * 4 := by
  rw [decode565, toNat_setWidth_shiftLeft_of_le _ (by decide), BitVec.extractLsb'_toNat, Nat.shiftRight_eq_div_pow]
  omega

@[simp] theorem decode565_b_toNat (w : Half) : (decode565 w).b.toNat = w.toNat % 32 * 8 := by
  rw [decode565, toNat_setWidth_shiftLeft_of_le _ (by decide), BitVec.extractLsb'_toNat, Nat.shiftRight_zero]
  omega

/-- R101: the three terms are the top bits of the channels, side by side. -/
theorem encode565_eq_append (c : Rgb) :
    encode565 c = c.r.extractLsb' 3 5 ++ c.g.extractLsb' 2 6 ++ c.b.extractLsb' 3 5 := by
  ext i hi
  by_cases hblue : i < 5
  · grind [encode565]
  by_cases hgreen : i < 11
  · grind [encode565]
  · grind [encode565]

/-- R101: the terms occupy disjoint bits, so they add up without a carry. -/
@[simp] theorem encode565_toNat (c : Rgb) :
    (encode565 c).toNat = c.r.toNat / 8 * 2048 + c.g.toNat / 4 * 32 + c.b.toNat / 8 := by
  have hr := c.r.isLt
  have hg := c.g.isLt
  have hb := c.b.isLt
  simp only [encode565_eq_append, toNat_append_eq_add, BitVec.extractLsb'_toNat, Nat.shiftRight_eq_div_pow]
  omega

/-- R102: the mean of three channels is a channel, so nothing is narrowed. -/
@[simp] theorem avgGrey_toNat (c : Rgb) : (avgGrey c).toNat = (c.r.toNat + c.g.toNat + c.b.toNat) / 3 := by
  have hr := c.r.isLt
  have hg := c.g.isLt
  have hb := c.b.isLt
  rw [avgGrey, BitVec.toNat_ofNat]
  omega

/-- R103: the weights sum to 10000, so the rounded mean is a channel and nothing is narrowed. -/
@[simp] theorem lumGrey_toNat (c : Rgb) :
    (lumGrey c).toNat = (2126 * c.r.toNat + 7152 * c.g.toNat + 722 * c.b.toNat + 5000) / 10000 := by
  have hr := c.r.isLt
  have hg := c.g.isLt
  have hb := c.b.isLt
  rw [lumGrey, BitVec.toNat_ofNat]
  omega

/-- Settles O6: the fields are five, six and five bits wide. -/
theorem expansionShiftsTheFields : Obligations.ExpansionShiftsTheFields := by
  unfold Obligations.ExpansionShiftsTheFields
  refine ⟨fun w => ?_, by decide⟩
  have hw := w.isLt
  rw [decode565_r_toNat, decode565_g_toNat, decode565_b_toNat]
  omega

/-- Settles O7. -/
theorem packingDropsTheLowBits : Obligations.PackingDropsTheLowBits := encode565_toNat

/-- Settles O9: the mean as a number, and three channels of at most 255. -/
theorem averagedGreyscaleTruncates : Obligations.AveragedGreyscaleTruncates := by
  unfold Obligations.AveragedGreyscaleTruncates
  refine ⟨avgGrey_toNat, fun c => ?_, by decide, by decide⟩
  have hr := c.r.isLt
  have hg := c.g.isLt
  have hb := c.b.isLt
  omega

/-! ## Packing and expansion -/

/-- R104 (a): the five, six and five bits kept are the ones expansion moved up. -/
theorem encode565_decode565 (w : Half) : encode565 (decode565 w) = w := by
  apply BitVec.eq_of_toNat_eq
  rw [encode565_toNat, decode565_r_toNat, decode565_g_toNat, decode565_b_toNat]
  omega

/-- R104 (c): one trip through the packed format rounds each channel down to a multiple of 8, 4 and 8. -/
theorem decode565_encode565_toNat (c : Rgb) :
    (decode565 (encode565 c)).r.toNat = c.r.toNat / 8 * 8 ∧ (decode565 (encode565 c)).g.toNat = c.g.toNat / 4 * 4 ∧
      (decode565 (encode565 c)).b.toNat = c.b.toNat / 8 * 8 := by
  have hgLt := c.g.isLt
  have hbLt := c.b.isLt
  rw [decode565_r_toNat, decode565_g_toNat, decode565_b_toNat, encode565_toNat]
  omega

/-- A mask that clears the low `k` bits of a byte rounds it down to a multiple of `2 ^ k`. -/
theorem toNat_and_highMask (v : Byte) (k : Nat) :
    (v &&& (BitVec.allOnes 8 <<< k)).toNat = v.toNat / 2 ^ k * 2 ^ k := by
  have hle : v.toNat / 2 ^ k * 2 ^ k < 2 ^ 8 := (Nat.div_mul_le_self _ _).trans_lt v.isLt
  rw [← BitVec.shiftLeft_ushiftRight, BitVec.toNat_shiftLeft, BitVec.toNat_ushiftRight, Nat.shiftRight_eq_div_pow,
    Nat.shiftLeft_eq, Nat.mod_eq_of_lt hle]

/-- R104 (b): the low 3, 2 and 3 bits are cleared. -/
theorem decode565_encode565 (c : Rgb) :
    decode565 (encode565 c) = ⟨c.r &&& 0xF8, c.g &&& 0xFC, c.b &&& 0xF8⟩ := by
  obtain ⟨hr, hg, hb⟩ := decode565_encode565_toNat c
  exact rgb_ext_toNat (hr.trans (toNat_and_highMask c.r 3).symm) (hg.trans (toNat_and_highMask c.g 2).symm)
    (hb.trans (toNat_and_highMask c.b 3).symm)

/-- R104 (d): triples pack to one word exactly when they agree above the dropped bits. -/
theorem encode565_eq_iff (c d : Rgb) : encode565 c = encode565 d ↔
    c.r.toNat / 8 = d.r.toNat / 8 ∧ c.g.toNat / 4 = d.g.toNat / 4 ∧ c.b.toNat / 8 = d.b.toNat / 8 := by
  have hcg := c.g.isLt
  have hcb := c.b.isLt
  have hdg := d.g.isLt
  have hdb := d.b.isLt
  rw [BitVec.toNat_eq, encode565_toNat, encode565_toNat]
  omega

/-- R104 (d): expansion is one-to-one, since packing undoes it. -/
theorem decode565_injective : Function.Injective decode565 :=
  Function.LeftInverse.injective encode565_decode565

/-- Settles O8. -/
theorem packingAndExpansionCompose : Obligations.PackingAndExpansionCompose := by
  unfold Obligations.PackingAndExpansionCompose
  refine ⟨encode565_decode565, fun c => ⟨decode565_encode565 c, ?_⟩, encode565_eq_iff,
    fun v w h => decode565_injective h⟩
  obtain ⟨hr, hg, hb⟩ := decode565_encode565_toNat c
  rw [hr, hg, hb]
  omega

/-! ## The luminosity greyscale -/

/-- R103: the weights sum to 10000, so a grey is its own weighted mean. -/
theorem lumGrey_grey (v : Byte) : lumGrey ⟨v, v, v⟩ = v := by
  apply BitVec.eq_of_toNat_eq
  have hmean : (2126 * v.toNat + 7152 * v.toNat + 722 * v.toNat + 5000) / 10000 = v.toNat := by omega
  rw [lumGrey_toNat, hmean]

/-- R103, U1: the weights are not negative, so a larger channel never lowers the result. -/
theorem lumGrey_mono {c d : Rgb} (hr : c.r.toNat ≤ d.r.toNat) (hg : c.g.toNat ≤ d.g.toNat)
    (hb : c.b.toNat ≤ d.b.toNat) : (lumGrey c).toNat ≤ (lumGrey d).toNat := by
  rw [lumGrey_toNat, lumGrey_toNat]
  exact Nat.div_le_div_right (by omega)

/-- R103: the weights are even, `7152` a multiple of 4, so on expanded channels every term is a multiple of 16. -/
theorem weightedSum_decode565_mod (w : Half) :
    (2126 * (decode565 w).r.toNat + 7152 * (decode565 w).g.toNat + 722 * (decode565 w).b.toNat) % 16 = 0 := by
  simp only [decode565_r_toNat, decode565_g_toNat, decode565_b_toNat]
  omega

/-- Settles O10. A tie is 5000 above a multiple of 10000, so it is 8 modulo 16, and the weighted sum of an expanded
word is 0. -/
theorem luminosityGreyscaleRounds : Obligations.LuminosityGreyscaleRounds := by
  unfold Obligations.LuminosityGreyscaleRounds
  refine ⟨lumGrey_toNat, lumGrey_grey, fun c d => lumGrey_mono, fun w htie => ?_⟩
  have hmod := weightedSum_decode565_mod w
  omega

/-! ## The four scalar operations -/

/-- R105 to R108: what the end of a scalar operation writes. -/
theorem scalarDone_eq (v : Word) (s : State) :
    scalarDone v s = { s with res0 := v, status := 0x02, gidx := 0, phase := .rest } := rfl

theorem exec_dec565 (s : State) : exec .dec565 s = .next (scalarDone (dec565Result s.lat) s) := rfl
theorem exec_enc565 (s : State) : exec .enc565 s = .next (scalarDone (enc565Result s.lat) s) := rfl
theorem exec_greyAvg (s : State) : exec .greyAvg s = .next (scalarDone (greyAvgResult s.lat) s) := rfl
theorem exec_greyLum (s : State) : exec .greyLum s = .next (scalarDone (greyLumResult s.lat) s) := rfl

@[simp] theorem opaColour_toNat (l : Latch) : (opaColour l).toNat = l.opa.toNat % 65536 := by
  simp [opaColour]
@[simp] theorem opaRgb_r_toNat (l : Latch) : (opaRgb l).r.toNat = l.opa.toNat / 65536 % 256 := by
  simp [opaRgb, wordRgb, Nat.shiftRight_eq_div_pow]
@[simp] theorem opaRgb_g_toNat (l : Latch) : (opaRgb l).g.toNat = l.opa.toNat / 256 % 256 := by
  simp [opaRgb, wordRgb, Nat.shiftRight_eq_div_pow]
@[simp] theorem opaRgb_b_toNat (l : Latch) : (opaRgb l).b.toNat = l.opa.toNat % 256 := by
  simp [opaRgb, wordRgb]

/-- R36: the number of a pixel word, from its alpha and its channels. -/
theorem packPixel_toNat (a : Byte) (c : Rgb) :
    (packPixel a c).toNat = a.toNat * 16777216 + c.r.toNat * 65536 + c.g.toNat * 256 + c.b.toNat := by
  simp only [packPixel, toNat_append_eq_add]
  omega

/-- Settles O11: only the low half of `OPA` is read. -/
theorem dec565WritesTheExpandedColour : Obligations.Dec565WritesTheExpandedColour := by
  unfold Obligations.Dec565WritesTheExpandedColour
  refine ⟨by decide, fun s => ⟨dec565Result s.lat, by rw [exec_dec565, scalarDone_eq], ?_⟩⟩
  simp only [dec565Result, packPixel_toNat, decode565_r_toNat, decode565_g_toNat, decode565_b_toNat, opaColour_toNat,
    BitVec.ofNat_eq_ofNat, BitVec.toNat_ofNat]
  omega

/-- Settles O12: only the three low bytes of `OPA` are read. -/
theorem enc565WritesThePackedWord : Obligations.Enc565WritesThePackedWord := by
  unfold Obligations.Enc565WritesThePackedWord
  refine ⟨by decide, fun s => ⟨enc565Result s.lat, by rw [exec_enc565, scalarDone_eq], ?_⟩⟩
  rw [enc565Result, BitVec.toNat_setWidth_of_le (by decide), encode565_toNat, opaRgb_r_toNat, opaRgb_g_toNat,
    opaRgb_b_toNat]

/-- Settles O13. -/
theorem greyAvgWritesTheMean : Obligations.GreyAvgWritesTheMean := by
  unfold Obligations.GreyAvgWritesTheMean
  refine ⟨by decide, fun s => ⟨greyAvgResult s.lat, by rw [exec_greyAvg, scalarDone_eq], ?_⟩⟩
  rw [greyAvgResult, BitVec.toNat_setWidth_of_le (by decide), avgGrey_toNat, opaRgb_r_toNat, opaRgb_g_toNat,
    opaRgb_b_toNat]

/-- Settles O14. -/
theorem greyLumWritesTheLuminosity : Obligations.GreyLumWritesTheLuminosity := by
  unfold Obligations.GreyLumWritesTheLuminosity
  refine ⟨by decide, fun s => ⟨greyLumResult s.lat, by rw [exec_greyLum, scalarDone_eq], ?_⟩⟩
  rw [greyLumResult, BitVec.toNat_setWidth_of_le (by decide), lumGrey_toNat, opaRgb_r_toNat, opaRgb_g_toNat,
    opaRgb_b_toNat]

end Sys2Proof.Machine

/-! The Layout Mapper (spec/41_layout_mapper.md): the group index and its inverse, what the checks of `BOFF` decide, and
its two ends. -/

namespace Sys2Proof.Machine

/-! ## The group index -/

/-- R121: the index counts the whole rows before row `y`, and `x` groups of row `y`. -/
theorem groupIndex_lt {outW outH x y : Nat} (hx : x < outW) (hy : y < outH) : groupIndex outW x y < outW * outH :=
  calc y * outW + x < y * outW + outW := Nat.add_lt_add_left hx _
    _ = outW * (y + 1) := by rw [Nat.mul_comm, Nat.mul_succ]
    _ ≤ outW * outH := Nat.mul_le_mul_left outW hy

/-- R121: the inverse gives the column back. -/
theorem groupIndex_mod {outW x : Nat} (hx : x < outW) (y : Nat) : groupIndex outW x y % outW = x := by
  rw [groupIndex, Nat.mul_add_mod_self_right, Nat.mod_eq_of_lt hx]

/-- R121: the inverse gives the row back. -/
theorem groupIndex_div {outW x : Nat} (hx : x < outW) (y : Nat) : groupIndex outW x y / outW = y := by
  rw [groupIndex, Nat.add_comm, Nat.add_mul_div_right x y (Nat.zero_lt_of_lt hx), Nat.div_eq_of_lt hx, Nat.zero_add]

/-- R121: a group number is the index of its own coordinate. -/
theorem groupIndex_mod_div (outW g : Nat) : groupIndex outW (g % outW) (g / outW) = g :=
  Nat.div_add_mod' g outW

/-- Settles O16: the division of a group number by the row length, both ways. A number below `outW * outH` has a row
to lie in, so `outW` is not 0. -/
theorem groupIndexIsABijection : Obligations.GroupIndexIsABijection := by
  unfold Obligations.GroupIndexIsABijection
  intro outW outH
  constructor
  · intro x y hx hy
    exact ⟨rfl, groupIndex_lt hx hy, groupIndex_mod hx y, groupIndex_div hx y⟩
  · intro g hg
    have hpos : 0 < outW := Nat.pos_of_mul_pos_right (Nat.zero_lt_of_lt hg)
    exact ⟨Nat.mod_lt g hpos, Nat.div_lt_of_lt_mul hg, groupIndex_mod_div outW g⟩

/-! ## The operation `BOFF` -/

/-- R126: `BOFF` is its checks, then its two results. -/
theorem exec_boff (c : Channel) (s : State) : exec (.boff c) s = .next (conclude (boffCheck c s) (boffDone c) s) := rfl

/-- R121, R126: the group index of the latched coordinate. -/
theorem boffGroup_eq (l : Latch) : boffGroup l = l.yOut.toNat * (l.width.toNat / 4) + l.xOut.toNat := rfl

/-- R123, R126: the offset of the latched coordinate's slot. -/
theorem boffOffset_eq (c : Channel) (l : Latch) : boffOffset c l = 8 * boffGroup l + 2 * (channelCode c).toNat := by
  rw [boffOffset, byteOffset, chanOffset_eq]

/-- R206: an error entry writes `STATUS`, `GIDX` and the phase. -/
theorem raiseError_eq (e : ErrorClass) (s : State) : raiseError e s = failedWith (statusError e) s := rfl

@[simp] theorem statusError_param : statusError .param = 0x43 := rfl
@[simp] theorem statusError_layout : statusError .layout = 0x13 := rfl

/-- The ParamError causes of `BOFF`: R204 (b), (c) and (e). -/
def BoffParamError (s : State) : Prop :=
  s.lat.width.toNat % 4 ≠ 0 ∨ s.lat.height.toNat % 4 ≠ 0 ∨ s.lat.bufLen.toNat > s.caps.pb.val ∨
    s.lat.xOut.toNat ≥ s.lat.width.toNat / 4 ∨ s.lat.yOut.toNat ≥ s.lat.height.toNat / 4

/-- R126, R207: any cause of ParamError comes before LayoutError. -/
theorem boffCheck_of_paramError {s : State} (h : BoffParamError s) (c : Channel) : boffCheck c s = some .param := by
  unfold boffCheck
  split_ifs with hdim hbuf hxy
  · rfl
  · rfl
  · rfl
  all_goals
    exfalso
    simp only [BoffParamError, Latch.badDimensions, Latch.outWidth, Latch.outHeight] at h hdim hxy
    omega

/-- R124, R126: past the ParamError causes only the slot's own end is left to check. -/
theorem boffCheck_of_not_paramError {s : State} (h : ¬ BoffParamError s) (c : Channel) :
    boffCheck c s = if boffOffset c s.lat + 2 > s.lat.bufLen.toNat then some .layout else none := by
  obtain ⟨hw, hh, hbuf, hx, hy⟩ : s.lat.width.toNat % 4 = 0 ∧ s.lat.height.toNat % 4 = 0 ∧
      s.lat.bufLen.toNat ≤ s.caps.pb.val ∧ s.lat.xOut.toNat < s.lat.outWidth ∧
      s.lat.yOut.toNat < s.lat.outHeight := by
    simpa only [BoffParamError, not_or, not_not, not_lt, not_le, Latch.outWidth, Latch.outHeight] using h
  unfold boffCheck
  rw [if_neg (by simp [hw, hh]), if_neg (by omega), if_neg (by omega)]

/-- R9: a slot that ends inside the buffer has an offset and a group that a result register holds. -/
theorem boffResults_toNat {c : Channel} {l : Latch} (h : boffOffset c l + 2 ≤ l.bufLen.toNat) :
    (BitVec.ofNat 32 (boffOffset c l)).toNat = boffOffset c l ∧
      (BitVec.ofNat 32 (boffGroup l)).toNat = boffGroup l := by
  have hbuf : l.bufLen.toNat < 2 ^ 32 := l.bufLen.isLt
  have hoff := boffOffset_eq c l
  simp only [BitVec.toNat_ofNat]
  omega

/-- R126: what a `BOFF` that passes its checks writes. -/
theorem boffDone_eq (c : Channel) (s : State) :
    boffDone c s = { s with
      res0 := BitVec.ofNat 32 (boffOffset c s.lat)
      res1 := BitVec.ofNat 32 (boffGroup s.lat)
      status := 0x02
      gidx := 0
      phase := .rest } := rfl

/-- Settles O18: the slot ends inside the buffer, whose length is a register, so neither result is truncated. -/
theorem boffGivesOffsetAndGroup : Obligations.BoffGivesOffsetAndGroup := by
  unfold Obligations.BoffGivesOffsetAndGroup
  intro c s hw hh hbuf hx hy hend
  rw [← boffGroup_eq, ← boffOffset_eq] at hend
  have hparam : ¬ BoffParamError s := by unfold BoffParamError; omega
  have hcheck : boffCheck c s = none := by rw [boffCheck_of_not_paramError hparam, if_neg (by omega)]
  obtain ⟨hoffset, hgroup⟩ := boffResults_toNat hend
  refine ⟨_, _, by rw [exec_boff, hcheck, conclude_none, boffDone_eq], hgroup, ?_⟩
  rw [hoffset, hgroup, boffOffset_eq]

/-- Settles O19: the two clauses are the two answers of the checks that are not a success. -/
theorem boffErrorsInOrder : Obligations.BoffErrorsInOrder := by
  unfold Obligations.BoffErrorsInOrder
  intro c s
  constructor
  · intro hparam
    rw [exec_boff, boffCheck_of_paramError hparam, conclude_some, raiseError_eq, statusError_param]
  · intro hw hh hbuf hx hy hend
    rw [← boffGroup_eq, ← boffOffset_eq] at hend
    have hparam : ¬ BoffParamError s := by unfold BoffParamError; omega
    rw [exec_boff, boffCheck_of_not_paramError hparam, if_pos hend, conclude_some, raiseError_eq, statusError_layout]

end Sys2Proof.Machine

/-! The Component Extractor (spec/42_component_extractor.md): what the raster checks decide and what a raster operation
leaves, both shared with the Blend Engine (R150), then the checks, the pixel and the ends of `EXTRACT`. -/

namespace Sys2Proof.Machine

/-! ## The raster frame -/

@[simp] theorem statusError_configuration : statusError .configuration = 0x23 := rfl

/-- R120: the count of groups, from the latched size. -/
theorem groups_eq (l : Latch) : l.groups = l.width.toNat / 4 * (l.height.toNat / 4) := rfl

/-- The ParamError causes of a raster operation: R204 (b), (c) and (d). -/
def RasterParamError (s : State) : Prop :=
  s.lat.width.toNat % 4 ≠ 0 ∨ s.lat.height.toNat % 4 ≠ 0 ∨ s.lat.bufLen.toNat > s.caps.pb.val ∨
    s.lat.groups > s.caps.px.val

/-- R150, R207: any cause of ParamError comes before LayoutError. -/
theorem rasterCheck_of_paramError {s : State} (h : RasterParamError s) : rasterCheck s = some .param := by
  unfold rasterCheck
  split_ifs with hdim hcap
  · rfl
  · rfl
  all_goals
    exfalso
    simp only [RasterParamError, Latch.badDimensions] at h hdim
    omega

/-- R125, R150: past the ParamError causes only the length of the buffer is left to check. -/
theorem rasterCheck_of_not_paramError {s : State} (h : ¬ RasterParamError s) :
    rasterCheck s = if s.lat.bufLen.toNat < 8 * s.lat.groups then some .layout else none := by
  obtain ⟨hw, hh, hbuf, hpx⟩ : s.lat.width.toNat % 4 = 0 ∧ s.lat.height.toNat % 4 = 0 ∧
      s.lat.bufLen.toNat ≤ s.caps.pb.val ∧ s.lat.groups ≤ s.caps.px.val := by
    simpa only [RasterParamError, not_or, not_not, not_lt] using h
  unfold rasterCheck
  rw [if_neg (by simp [hw, hh]), if_neg (by omega)]

/-- R125, R150: the checks pass on a ready raster. -/
theorem rasterCheck_of_ready {s : State} (h : RasterReady s) : rasterCheck s = none := by
  obtain ⟨hw, hh, hbuf, hpx, hlen⟩ := h
  exact rasterCheck_of hw hh hbuf hpx hlen

/-- R120, R150: a raster operation on a ready raster writes its image and reports its size. The count of groups fits
`GIDX` because it is within the capacity of PX. -/
theorem rasterResult_rasterDone {s : State} (h : RasterReady s) (pixel : List Host.Cell → Nat → Word) :
    RasterResult (pixel s.pb) s (rasterDone pixel s) := by
  obtain ⟨-, -, -, hpx, -⟩ := h
  have hgroups : s.lat.groups < 2 ^ 32 := Nat.lt_of_le_of_lt hpx s.caps.px.isLt
  have hw : s.lat.outWidth < 2 ^ 32 := Nat.lt_of_le_of_lt (Nat.div_le_self _ _) s.lat.width.isLt
  have hh : s.lat.outHeight < 2 ^ 32 := Nat.lt_of_le_of_lt (Nat.div_le_self _ _) s.lat.height.isLt
  refine ⟨rfl, ?_, ?_, ?_, fun n => ?_⟩
  · rw [rasterDone_outW, BitVec.toNat_ofNat, Nat.mod_eq_of_lt hw, Latch.outWidth]
  · rw [rasterDone_outH, BitVec.toNat_ofNat, Nat.mod_eq_of_lt hh, Latch.outHeight]
  · rw [rasterDone_gidx, BitVec.toNat_ofNat, Nat.mod_eq_of_lt hgroups, groups_eq]
  · exact pxWord_storeRange (pixel s.pb) s.lat.groups s.px n

/-- The image is told by its pixels. -/
theorem RasterResult.congr {p q : Nat → Word} {s t : State} (h : RasterResult p s t) (hpq : ∀ n, p n = q n) :
    RasterResult q s t :=
  funext hpq ▸ h

/-! ## The operation `EXTRACT` -/

/-- R135: `EXTRACT` is its checks, then its image. -/
theorem exec_extract (c : Channel) (k : MaskKind) (q : MaskReq) (g : GreySel) (s : State) :
    exec (.extract c k q g) s = .next (conclude (extractCheck c k s) (rasterDone (extractPixel c k q g)) s) := rfl

/-- R131: the fault is a mask kind together with a mask primary. -/
theorem maskOfMask_iff (c : Channel) (k : MaskKind) :
    maskOfMask c k = true ↔ k ≠ .none ∧ (c = .lightMask ∨ c = .darkMask) := by
  cases c <;> cases k <;> decide

/-- R131, R207: a mask asked of a mask primary comes before every raster check. -/
theorem extractCheck_of_maskOfMask {c : Channel} {k : MaskKind} (hk : k ≠ .none) (hc : c = .lightMask ∨ c = .darkMask)
    (s : State) : extractCheck c k s = some .configuration :=
  if_pos ((maskOfMask_iff c k).mpr ⟨hk, hc⟩)

/-- R135: without that fault the checks of `EXTRACT` are the raster checks. -/
theorem extractCheck_of_legal {c : Channel} {k : MaskKind} (h : k = .none ∨ c = .light ∨ c = .dark) (s : State) :
    extractCheck c k s = rasterCheck s := by
  have hmask : ¬ maskOfMask c k = true := by
    rw [maskOfMask_iff]
    rintro ⟨hk, rfl | rfl⟩ <;> simp [hk] at h
  exact if_neg hmask

/-- The mask slot of a primary that has one, as R130 tells it: slot 4 but for two rows of its table. -/
abbrev maskSlot (c : Channel) (q : MaskReq) : Nat :=
  if c = .light ∧ q = .dark then 6 else if c = .dark ∧ q = .light then 2 else 4

/-- R130: the rows of the table. -/
theorem maskOffset_eq_maskSlot {c : Channel} (hc : c = .light ∨ c = .dark) (q : MaskReq) :
    maskOffset c q = some (maskSlot c q) := by
  obtain rfl | rfl := hc <;> cases q <;> rfl

/-- R133: the reduction the selector names. -/
theorem greyOf_eq (g : GreySel) : greyOf g = if g = .averaged then avgGrey else lumGrey := by
  cases g <;> rfl

/-- R132, R134: the alpha of a primary that has a mask slot. -/
theorem extractAlpha_of_slot {c : Channel} (hc : c = .light ∨ c = .dark) (k : MaskKind) (q : MaskReq) (g : GreySel)
    (pb : List Host.Cell) (n : Nat) :
    extractAlpha c k q g pb n =
      alphaOf k ((if g = .averaged then avgGrey else lumGrey) (slotRgb pb n (maskSlot c q))) := by
  rw [extractAlpha, maskOffset_eq_maskSlot hc, greyOf_eq]

/-- R134: the colours of a pixel are the primary channel's. -/
theorem extractPixel_eq (c : Channel) (k : MaskKind) (q : MaskReq) (g : GreySel) (s : State) (n : Nat) :
    extractPixel c k q g s.pb n =
      packPixel (extractAlpha c k q g s.pb n) (groupColour s n (2 * (channelCode c).toNat)) := by
  rw [extractPixel, chanOffset_eq, slotRgb]

/-- Settles O20: the raster is ready, so the image is made whole, and its alpha is told by mask kind; a mask kind other
than None leaves only the primaries that have a mask slot. -/
theorem extractLeavesTheImage : Obligations.ExtractLeavesTheImage := by
  unfold Obligations.ExtractLeavesTheImage
  intro c k q g s hlegal hready
  have hexec : exec (.extract c k q g) s = .next (rasterDone (extractPixel c k q g) s) := by
    rw [exec_extract, extractCheck_of_legal hlegal, rasterCheck_of_ready hready, conclude_none]
  refine ⟨_, hexec, (rasterResult_rasterDone hready _).congr fun n => ?_⟩
  rw [extractPixel_eq]
  cases k with
  | none => rw [extractAlpha_none]
  | alpha | inverseAlpha =>
    have hc : c = .light ∨ c = .dark := hlegal.resolve_left MaskKind.noConfusion
    rw [extractAlpha_of_slot hc, alphaOf, slotRgb]

/-- Settles O21: the three clauses are the three answers of the checks that are not a success. -/
theorem extractErrorsInOrder : Obligations.ExtractErrorsInOrder := by
  unfold Obligations.ExtractErrorsInOrder
  intro c k q g s
  refine ⟨fun hk hc => ?_, fun hlegal hparam => ?_, fun hlegal hw hh hbuf hpx hshort => ?_⟩
  · rw [exec_extract, extractCheck_of_maskOfMask hk hc, conclude_some, raiseError_eq, statusError_configuration]
  · rw [exec_extract, extractCheck_of_legal hlegal, rasterCheck_of_paramError hparam, conclude_some, raiseError_eq,
      statusError_param]
  · rw [← groups_eq] at hpx hshort
    have hparam : ¬ RasterParamError s := by unfold RasterParamError; omega
    rw [exec_extract, extractCheck_of_legal hlegal, rasterCheck_of_not_paramError hparam, if_pos hshort, conclude_some,
      raiseError_eq, statusError_layout]

end Sys2Proof.Machine

/-! The Blend Engine (spec/43_blend_engine.md): the weighted sum and the mean as numbers, the seven operations as one
frame around their pixel, what each leaves and how it fails, and what `BLEND.MCOMP` does not read. -/

namespace Sys2Proof.Machine

/-! ## The weighted sum -/

/-- R151: equal arguments make the weighted sum 255 times their value, since the two weights sum to 255. -/
theorem weightedSum_self (x : Nat) {m : Nat} (hm : m ≤ 255) : x * (255 - m) + x * m = x * 255 := by
  rw [← Nat.mul_add, Nat.sub_add_cancel hm]

/-- R151: the weighted sum is at least 255 times the smaller argument. -/
theorem le_weightedSum (x y : Nat) {m : Nat} (hm : m ≤ 255) : min x y * 255 ≤ x * (255 - m) + y * m :=
  calc min x y * 255 = min x y * (255 - m) + min x y * m := (weightedSum_self _ hm).symm
    _ ≤ x * (255 - m) + y * m :=
      Nat.add_le_add (Nat.mul_le_mul_right _ (Nat.min_le_left x y)) (Nat.mul_le_mul_right _ (Nat.min_le_right x y))

/-- R151: the weighted sum is at most 255 times the larger argument. -/
theorem weightedSum_le (x y : Nat) {m : Nat} (hm : m ≤ 255) : x * (255 - m) + y * m ≤ max x y * 255 :=
  calc x * (255 - m) + y * m ≤ max x y * (255 - m) + max x y * m :=
      Nat.add_le_add (Nat.mul_le_mul_right _ (Nat.le_max_left x y)) (Nat.mul_le_mul_right _ (Nat.le_max_right x y))
    _ = max x y * 255 := weightedSum_self _ hm

/-- R151: the numerator of `MIX` on bytes is at most 255 times 255. -/
theorem mixNumerator_le (x y m : Byte) : x.toNat * (255 - m.toNat) + y.toNat * m.toNat ≤ 65025 := by
  have hx := x.isLt
  have hy := y.isLt
  have hle := weightedSum_le x.toNat y.toNat (Nat.le_of_lt_succ m.isLt)
  omega

/-- R151: the quotient is a byte, so nothing is narrowed. -/
@[simp] theorem mix_toNat (x y m : Byte) :
    (mix x y m).toNat = (x.toNat * (255 - m.toNat) + y.toNat * m.toNat) / 255 := by
  have hle := mixNumerator_le x y m
  rw [mix, BitVec.toNat_ofNat, Nat.mod_eq_of_lt (by omega)]

/-- R151: `MIX` is at least the smaller argument. -/
theorem min_le_mix (x y m : Byte) : min x.toNat y.toNat ≤ (mix x y m).toNat := by
  rw [mix_toNat, Nat.le_div_iff_mul_le (by decide)]
  exact le_weightedSum _ _ (Nat.le_of_lt_succ m.isLt)

/-- R151: `MIX` is at most the larger argument. -/
theorem mix_le_max (x y m : Byte) : (mix x y m).toNat ≤ max x.toNat y.toNat := by
  have hle := weightedSum_le x.toNat y.toNat (Nat.le_of_lt_succ m.isLt)
  rw [mix_toNat]
  omega

/-- R151: weight 0 leaves the first argument. -/
@[simp] theorem mix_zero (x y : Byte) : mix x y 0 = x :=
  BitVec.eq_of_toNat_eq (by simp)

/-- R151: weight 255 leaves the second argument. -/
@[simp] theorem mix_full (x y : Byte) : mix x y 255 = y :=
  BitVec.eq_of_toNat_eq (by simp)

/-- R151: between `x` and `x` there is only `x`. -/
@[simp] theorem mix_self (x m : Byte) : mix x x m = x := by
  have hmin := min_le_mix x x m
  have hmax := mix_le_max x x m
  rw [Nat.min_self] at hmin
  rw [Nat.max_self] at hmax
  exact BitVec.eq_of_toNat_eq (Nat.le_antisymm hmax hmin)

/-- Settles O23: the weights sum to 255, so the exact quotient stays between the arguments. -/
theorem mixIsExactAndBetween : Obligations.MixIsExactAndBetween := by
  unfold Obligations.MixIsExactAndBetween
  exact fun x y m => ⟨mix_toNat x y m, mixNumerator_le x y m, min_le_mix x y m, mix_le_max x y m, mix_zero x y,
    mix_full x y, mix_self x m⟩

/-- R157: the mean of two bytes is a byte, so the sum is not narrowed. -/
@[simp] theorem halfSum_toNat (x y : Byte) : (halfSum x y).toNat = (x.toNat + y.toNat) / 2 := by
  have hx := x.isLt
  have hy := y.isLt
  rw [halfSum, BitVec.toNat_ofNat, Nat.mod_eq_of_lt (by omega)]

/-! ## One frame for the seven operations -/

/-- The opaque colour of the slot at `off`: the pixel of the four single-channel strategies (R152 to R155) and of an
extraction without a mask (R134). -/
def slotPixel (off : Nat) (pb : List Host.Cell) (g : Nat) : Word := packPixel 255 (slotRgb pb g off)

theorem exec_blendLight (s : State) : exec .blendLight s = .next (blendFrame (slotPixel 0) s) := rfl
theorem exec_blendLMask (s : State) : exec .blendLMask s = .next (blendFrame (slotPixel 4) s) := rfl
theorem exec_blendDark (s : State) : exec .blendDark s = .next (blendFrame (slotPixel 2) s) := rfl
theorem exec_blendDMask (s : State) : exec .blendDMask s = .next (blendFrame (slotPixel 6) s) := rfl
theorem exec_blendMComp (s : State) : exec .blendMComp s = .next (blendFrame maskedPixel s) := rfl
theorem exec_blendCAvg (s : State) : exec .blendCAvg s = .next (blendFrame averagePixel s) := rfl
theorem exec_blendDmab (s : State) : exec .blendDmab s = .next (blendFrame dualMaskPixel s) := rfl

/-- R150: only the pixel tells one blend operation from another. -/
theorem exists_exec_eq_blendFrame {i : Instr} (h : i ∈ blends) :
    ∃ pixel, ∀ s, exec i s = .next (blendFrame pixel s) := by
  simp only [List.mem_cons, List.not_mem_nil, or_false] at h
  obtain rfl | rfl | rfl | rfl | rfl | rfl | rfl := h
  · exact ⟨_, exec_blendLight⟩
  · exact ⟨_, exec_blendLMask⟩
  · exact ⟨_, exec_blendDark⟩
  · exact ⟨_, exec_blendDMask⟩
  · exact ⟨_, exec_blendMComp⟩
  · exact ⟨_, exec_blendCAvg⟩
  · exact ⟨_, exec_blendDmab⟩

/-- R150: on a ready raster the frame writes the image of its pixel. -/
theorem rasterResult_blendFrame {s : State} (h : RasterReady s) (pixel : List Host.Cell → Nat → Word) :
    RasterResult (pixel s.pb) s (blendFrame pixel s) := by
  rw [blendFrame, rasterCheck_of_ready h, conclude_none]
  exact rasterResult_rasterDone h pixel

/-- R150, R204: any cause of ParamError ends the frame, whatever its pixel. -/
theorem blendFrame_of_paramError {s : State} (h : RasterParamError s) (pixel : List Host.Cell → Nat → Word) :
    blendFrame pixel s = failedWith 0x43 s := by
  rw [blendFrame, rasterCheck_of_paramError h, conclude_some, raiseError_eq, statusError_param]

/-- R125, R150: past the ParamError causes a short buffer ends the frame, whatever its pixel. -/
theorem blendFrame_of_short {s : State} (h : ¬ RasterParamError s) (hshort : s.lat.bufLen.toNat < 8 * s.lat.groups)
    (pixel : List Host.Cell → Nat → Word) : blendFrame pixel s = failedWith 0x13 s := by
  rw [blendFrame, rasterCheck_of_not_paramError h, if_pos hshort, conclude_some, raiseError_eq, statusError_layout]

/-- R150: the frame never writes PB, and reads it through its pixel only. -/
theorem blendFrame_withPb {pixel : List Host.Cell → Nat → Word} {s : State} {pb' : List Host.Cell}
    (h : ∀ n, pixel pb' n = pixel s.pb n) :
    blendFrame pixel { s with pb := pb' } = { blendFrame pixel s with pb := pb' } := by
  have himage : pixel pb' = pixel s.pb := funext h
  have hcheck : rasterCheck { s with pb := pb' } = rasterCheck s := rfl
  rw [blendFrame, blendFrame, hcheck]
  cases rasterCheck s with
  | some e => rfl
  | none => simp only [conclude_none, rasterDone, finishDone, himage]

/-! ## What each operation leaves -/

/-- Settles O24: the four strategies are the frame around the pixel of one slot. -/
theorem singleChannelBlendsLeaveTheSlot : Obligations.SingleChannelBlendsLeaveTheSlot := by
  unfold Obligations.SingleChannelBlendsLeaveTheSlot
  intro s hready
  have hslot (off : Nat) :
      RasterResult (fun n => packPixel 255 (groupColour s n off)) s (blendFrame (slotPixel off) s) :=
    (rasterResult_blendFrame hready _).congr fun n => by rw [slotPixel, slotRgb]
  exact ⟨⟨_, exec_blendLight s, hslot 0⟩, ⟨_, exec_blendLMask s, hslot 4⟩, ⟨_, exec_blendDark s, hslot 2⟩,
    ⟨_, exec_blendDMask s, hslot 6⟩⟩

/-- Settles O25: the raster is ready, so the image is made whole, and its pixel is `MIX` channel by channel. -/
theorem maskedCompositeLeavesDarkOverLight : Obligations.MaskedCompositeLeavesDarkOverLight := by
  unfold Obligations.MaskedCompositeLeavesDarkOverLight
  intro s hready
  refine ⟨_, exec_blendMComp s, (rasterResult_blendFrame hready _).congr fun n => ?_⟩
  simp only [maskedPixel, mixRgb, slotRgb]

/-- Settles O26: the image is made whole, and a mean of two bytes fits a byte. -/
theorem channelAverageLeavesTheMean : Obligations.ChannelAverageLeavesTheMean := by
  unfold Obligations.ChannelAverageLeavesTheMean
  refine ⟨fun s hready => ⟨_, exec_blendCAvg s, (rasterResult_blendFrame hready _).congr fun n => ?_⟩, halfSum_toNat⟩
  simp only [averagePixel, slotRgb]

/-- Settles O27: as MaskedComposite, with the weight of R158. -/
theorem dualMaskBlendLeavesTheOrWeightedMix : Obligations.DualMaskBlendLeavesTheOrWeightedMix := by
  unfold Obligations.DualMaskBlendLeavesTheOrWeightedMix
  intro s hready
  refine ⟨_, exec_blendDmab s, (rasterResult_blendFrame hready _).congr fun n => ?_⟩
  simp only [dualMaskPixel, dualMaskWeight, mixRgb, slotRgb]

/-- Settles O28: the two clauses are the two answers of the shared checks that are not a success. -/
theorem blendErrorsInOrder : Obligations.BlendErrorsInOrder := by
  unfold Obligations.BlendErrorsInOrder
  intro i hblend s
  obtain ⟨pixel, hexec⟩ := exists_exec_eq_blendFrame hblend
  refine ⟨fun hparam => ?_, fun hw hh hbuf hpx hshort => ?_⟩
  · rw [hexec, blendFrame_of_paramError hparam]
  · rw [← groups_eq] at hpx hshort
    have hparam : ¬ RasterParamError s := by unfold RasterParamError; omega
    rw [hexec, blendFrame_of_short hparam hshort]

/-! ## What `BLEND.MCOMP` does not read -/

/-- R122, R159: a slot other than LightMask's holds none of its bytes. -/
theorem slotRgb_congr_of_lightMask {p q : List Host.Cell}
    (h : ∀ a, a % 8 ≠ 4 → a % 8 ≠ 5 → pbByte p a = pbByte q a) (n : Nat) {off : Nat}
    (hoff : off = 0 ∨ off = 2 ∨ off = 6) : slotRgb p n off = slotRgb q n off := by
  rw [slotRgb, slotRgb, memRead16_congr (h _ (by omega) (by omega)) (h _ (by omega) (by omega))]

/-- R159: the pixel of MaskedComposite reads the slots Light, Dark and DarkMask. -/
theorem maskedPixel_congr_of_lightMask {p q : List Host.Cell}
    (h : ∀ a, a % 8 ≠ 4 → a % 8 ≠ 5 → pbByte p a = pbByte q a) (n : Nat) : maskedPixel p n = maskedPixel q n := by
  have hslot {off : Nat} (hoff : off = 0 ∨ off = 2 ∨ off = 6) : slotRgb p n off = slotRgb q n off :=
    slotRgb_congr_of_lightMask h n hoff
  rw [maskedPixel, maskedPixel, hslot (.inl rfl), hslot (.inr (.inl rfl)), hslot (.inr (.inr rfl))]

/-- Settles O30: the pixels agree, so the two end states differ in PB alone, after a success as after an error. -/
theorem maskedCompositeIgnoresLightMask : Obligations.MaskedCompositeIgnoresLightMask := by
  unfold Obligations.MaskedCompositeIgnoresLightMask
  intro s pb' hpb
  have hframe : blendFrame maskedPixel { s with pb := pb' } = { blendFrame maskedPixel s with pb := pb' } :=
    blendFrame_withPb (maskedPixel_congr_of_lightMask hpb)
  refine ⟨_, _, exec_blendMComp s, exec_blendMComp _, ?_⟩
  rw [hframe]
  exact ⟨rfl, fun _ => rfl⟩

/-! ## The strategies as extractions -/

/-- R132, R134: without a mask kind a pixel is the opaque colour of the primary's slot. -/
theorem extractPixel_none (c : Channel) (q : MaskReq) (g : GreySel) :
    extractPixel c .none q g = slotPixel (chanOffset c) := by
  funext pb n
  rw [extractPixel, extractAlpha_none, slotPixel]

/-- R162: an extraction without a mask is the blend frame around the primary's slot. -/
theorem exec_extract_none (c : Channel) (q : MaskReq) (g : GreySel) (s : State) :
    exec (.extract c .none q g) s = .next (blendFrame (slotPixel (chanOffset c)) s) := by
  rw [exec_extract, extractCheck_of_legal (.inl rfl), extractPixel_none, blendFrame]

/-- R36: a pixel word gives its colour back. -/
@[simp] theorem wordRgb_packPixel (a : Byte) (c : Rgb) : wordRgb (packPixel a c) = c := by
  have hr := c.r.isLt
  have hg := c.g.isLt
  have hb := c.b.isLt
  apply rgb_ext_toNat
  all_goals
    simp only [wordRgb, BitVec.extractLsb'_toNat, packPixel_toNat, Nat.shiftRight_eq_div_pow]
    omega

/-- R134, R162: an extraction without a mask shows the colours of the primary's slot. -/
theorem wordRgb_extractPixel_none (c : Channel) (q : MaskReq) (g : GreySel) (pb : List Host.Cell) (n : Nat) :
    wordRgb (extractPixel c .none q g pb n) = slotRgb pb n (chanOffset c) := by
  rw [extractPixel_none, slotPixel, wordRgb_packPixel]

/-- R130: no row of the table gives a Dark primary its own mask slot. -/
theorem maskOffset_dark_ne (q : MaskReq) : maskOffset .dark q ≠ some 6 := by
  cases q <;> decide

/-- Settles O29: both sides of the first equalities are the frame around one slot, and the second is about the colours
of two such pixels. -/
theorem singleChannelBlendsAreExtractions : Obligations.SingleChannelBlendsAreExtractions := by
  unfold Obligations.SingleChannelBlendsAreExtractions
  refine ⟨fun s q g => ⟨?_, ?_, ?_, ?_⟩, fun pb n q g => ?_, maskOffset_dark_ne⟩
  · rw [exec_blendLight, exec_extract_none, chanOffset]
  · rw [exec_blendDark, exec_extract_none, chanOffset]
  · rw [exec_blendLMask, exec_extract_none, chanOffset]
  · rw [exec_blendDMask, exec_extract_none, chanOffset]
  · simp only [wordRgb_extractPixel_none, chanOffset, alphaOf, greyOf, maskedPixel]

end Sys2Proof.Machine

/-! The Reconstruction Encoder (spec/44_reconstruction_encoder.md): the checks and the two ends of `ENCODE`, the buffer
it produces, and what `EXTRACT` reads back from that buffer. -/

namespace Sys2Proof.Machine

/-! ## The checks of `ENCODE` -/

/-- R180: `ENCODE` is its checks, then its buffer. -/
theorem exec_encode (f : FillMode) (s : State) :
    exec (.encode f) s = .next (conclude (encodeCheck s) (encodeDone f) s) := rfl

@[simp] theorem statusError_size : statusError .size = 0x33 := rfl

/-- R180: the count of pixels, from the latched size. -/
theorem pixels_eq (l : Latch) : l.pixels = l.imgW.toNat * l.imgH.toNat := rfl

/-- R180, R207: an image or a buffer beyond its capacity comes before the size check. -/
theorem encodeCheck_of_beyond_capacity {s : State}
    (h : s.lat.pixels > s.caps.px.val ∨ s.lat.destLen.toNat > s.caps.pb.val) : encodeCheck s = some .param :=
  if_pos h

/-- R182: inside the capacities, an image that does not fit the buffer fails the size check. -/
theorem encodeCheck_of_oversized {s : State} (hpx : s.lat.pixels ≤ s.caps.px.val)
    (hpb : s.lat.destLen.toNat ≤ s.caps.pb.val) (hsize : 8 * s.lat.pixels > s.lat.destLen.toNat) :
    encodeCheck s = some .size := by
  unfold encodeCheck
  rw [if_neg (by omega), if_pos hsize]

/-- Settles O34: the two clauses are the two answers of the checks that are not a success. -/
theorem encodeErrorsInOrder : Obligations.EncodeErrorsInOrder := by
  unfold Obligations.EncodeErrorsInOrder
  intro f s
  refine ⟨fun hcap => ?_, fun hpx hpb hsize => ?_⟩
  · rw [exec_encode, encodeCheck_of_beyond_capacity hcap, conclude_some, raiseError_eq, statusError_param]
  · rw [exec_encode, encodeCheck_of_oversized hpx hpb hsize, conclude_some, raiseError_eq, statusError_size]

/-! ## The buffer `ENCODE` produces -/

/-- R180: an `ENCODE` whose checks pass makes its effect whole. -/
theorem exec_encode_of_ready {s : State} (h : EncodeReady s) (f : FillMode) :
    exec (.encode f) s = .next (encodeDone f s) := by
  obtain ⟨hpx, hpb, hsize⟩ := h
  rw [exec_encode, encodeCheck_of hpx hpb hsize, conclude_none]

/-- R180, R181: beside PB, only `GIDX`, `STATUS` and the phase are written. -/
theorem encodeDone_eq (f : FillMode) (s : State) :
    encodeDone f s = { s with
      pb := (encodeDone f s).pb
      gidx := (encodeDone f s).gidx
      status := 0x02
      phase := .rest } := rfl

/-- R32, R180: the count of pixels fits `GIDX` because it is within the capacity of PX. -/
theorem encodeDone_gidx_toNat {s : State} (h : EncodeReady s) (f : FillMode) :
    (encodeDone f s).gidx.toNat = s.lat.imgW.toNat * s.lat.imgH.toNat := by
  obtain ⟨hpx, -, -⟩ := h
  rw [encodeDone_gidx, BitVec.toNat_ofNat, pixels_eq, Nat.mod_eq_of_lt (hpx.trans_lt s.caps.px.isLt)]

/-- R183: ZeroFill makes a new buffer and leaves the bytes past it. -/
theorem pbByte_background_zeroFill (n : Nat) (pb : List Host.Cell) (a : Nat) :
    pbByte (background .zeroFill n pb) a = if a < n then 0 else pbByte pb a :=
  pbByte_storeRange (fun _ => 0) n pb a

/-- R183: Patch works on the caller's buffer. -/
theorem background_patch (n : Nat) (pb : List Host.Cell) : background .patch n pb = pb := rfl

/-- Settles O32: the pixels on a zeroed background. -/
theorem encodeZeroFillLeavesTheImage : Obligations.EncodeZeroFillLeavesTheImage := by
  unfold Obligations.EncodeZeroFillLeavesTheImage
  intro s hready
  refine ⟨_, exec_encode_of_ready hready _, encodeDone_eq _ s, encodeDone_gidx_toNat hready _, fun a => ?_⟩
  rw [encodeDone_pb, pbByte_encodePixels, pbByte_background_zeroFill, pixels_eq, pixelColour]

/-- Settles O33: the pixels on the caller's background. -/
theorem encodePatchWritesLightSlotsOnly : Obligations.EncodePatchWritesLightSlotsOnly := by
  unfold Obligations.EncodePatchWritesLightSlotsOnly
  intro s hready
  refine ⟨_, exec_encode_of_ready hready _, encodeDone_eq _ s, encodeDone_gidx_toNat hready _, fun a => ?_⟩
  rw [encodeDone_pb, pbByte_encodePixels, background_patch, pixels_eq, pixelColour]

/-! ## The slots of the produced buffer -/

/-- R52: a 16-bit read of a word's low byte followed by its high byte is the word. -/
theorem memRead16_eq_of_bytes {pb : List Host.Cell} {a : Nat} {w : Half} (hlow : pbByte pb a = w.extractLsb' 0 8)
    (hhigh : pbByte pb (a + 1) = w.extractLsb' 8 8) : memRead16 pb a = w := by
  rw [memRead16, hlow, hhigh]
  exact BitVec.extractLsb'_append_extractLsb'_eq_extractLsb' (by omega) |>.trans BitVec.extractLsb'_eq_self

/-- R180, R181: the Light slot of a written pixel's group holds its Color565 word. -/
theorem memRead16_encodePixels_light (px : List (Nat × Word)) {m n : Nat} (hn : n < m) (pb : List Host.Cell) :
    memRead16 (encodePixels px m pb) (8 * n) = pixelColour px n := by
  have hlow : 8 * n < 8 * m ∧ 8 * n % 8 = 0 := by omega
  have hhigh : 8 * n + 1 < 8 * m ∧ (8 * n + 1) % 8 = 1 := by omega
  have hdiv : 8 * n / 8 = n ∧ (8 * n + 1) / 8 = n := by omega
  apply memRead16_eq_of_bytes
  · rw [pbByte_encodePixels, if_pos hlow, hdiv.1]
  · rw [pbByte_encodePixels, if_neg (by omega), if_pos hhigh, hdiv.2]

/-- R181: the other three slots hold what the background holds. -/
theorem memRead16_encodePixels_other (px : List (Nat × Word)) (m n : Nat) (pb : List Host.Cell) {c : Channel}
    (hc : c ≠ .light) :
    memRead16 (encodePixels px m pb) (8 * n + chanOffset c) = memRead16 pb (8 * n + chanOffset c) := by
  have hoff : chanOffset c = 2 ∨ chanOffset c = 4 ∨ chanOffset c = 6 := by
    cases c with
    | light => exact absurd rfl hc
    | dark | lightMask | darkMask => decide
  apply memRead16_congr
  all_goals rw [pbByte_encodePixels, if_neg (by omega), if_neg (by omega)]

/-- R183: a slot inside a zeroed buffer holds 0. -/
theorem memRead16_background_zeroFill {n a : Nat} (h : a + 2 ≤ n) (pb : List Host.Cell) :
    memRead16 (background .zeroFill n pb) a = 0 := by
  rw [memRead16, pbByte_background_zeroFill, pbByte_background_zeroFill, if_pos (by omega), if_pos (by omega)]
  rfl

/-- R180, R181: after `ENCODE` the Light slot of a pixel's group holds the pixel's Color565 word. -/
theorem memRead16_encodeDone_light (f : FillMode) {s : State} {n : Nat} (hn : n < s.lat.pixels) :
    memRead16 (encodeDone f s).pb (8 * n + chanOffset .light) = pixelColour s.px n := by
  rw [encodeDone_pb, chanOffset, Nat.add_zero, memRead16_encodePixels_light _ hn]

/-- R181, R183: after `ENCODE` with ZeroFill the other slots of a pixel's group hold 0, since the whole group lies
below `DESTLEN`. -/
theorem memRead16_encodeDone_zeroFill {s : State} (hready : EncodeReady s) {c : Channel} (hc : c ≠ .light) {n : Nat}
    (hn : n < s.lat.imgW.toNat * s.lat.imgH.toNat) :
    memRead16 (encodeDone .zeroFill s).pb (8 * n + chanOffset c) = 0 := by
  obtain ⟨-, -, hsize⟩ := hready
  have hslot : chanOffset c + 2 ≤ 8 := by cases c <;> decide
  rw [encodeDone_pb, memRead16_encodePixels_other _ _ _ _ hc, memRead16_background_zeroFill (by omega)]

/-- R181, R183: after `ENCODE` with Patch the other slots hold what they held. -/
theorem memRead16_encodeDone_patch (s : State) {c : Channel} (hc : c ≠ .light) (n : Nat) :
    memRead16 (encodeDone .patch s).pb (8 * n + chanOffset c) = memRead16 s.pb (8 * n + chanOffset c) := by
  rw [encodeDone_pb, memRead16_encodePixels_other _ _ _ _ hc, background_patch]

/-! ## The round trip -/

/-- R185: `u` reads the buffer that `ENCODE` produced in `s`: its dimensions are four times the image's, and its buffer
length lies between the image's `8P` bytes and `DESTLEN`. -/
structure ReadsEncoded (s u : State) : Prop where
  caps : u.caps = s.caps
  width : u.lat.width.toNat = 4 * s.lat.imgW.toNat
  height : u.lat.height.toNat = 4 * s.lat.imgH.toNat
  holdsImage : 8 * (s.lat.imgW.toNat * s.lat.imgH.toNat) ≤ u.lat.bufLen.toNat
  withinDest : u.lat.bufLen.toNat ≤ s.lat.destLen.toNat

/-- R185: a group of the reading state for each pixel of the image. -/
theorem ReadsEncoded.groups {s u : State} (h : ReadsEncoded s u) :
    u.lat.width.toNat / 4 * (u.lat.height.toNat / 4) = s.lat.imgW.toNat * s.lat.imgH.toNat := by
  rw [h.width, h.height, Nat.mul_div_cancel_left _ (by decide), Nat.mul_div_cancel_left _ (by decide)]

/-- R125, R185: the reading state passes the raster checks, since the encoder's own passed. -/
theorem ReadsEncoded.rasterReady {s u : State} (h : ReadsEncoded s u) (hready : EncodeReady s) : RasterReady u := by
  obtain ⟨hpx, hpb, -⟩ := hready
  refine ⟨?_, ?_, ?_, ?_, ?_⟩
  · rw [h.width, Nat.mul_mod_right]
  · rw [h.height, Nat.mul_mod_right]
  · rw [h.caps]
    exact h.withinDest.trans hpb
  · rw [h.groups, h.caps]
    exact hpx
  · rw [h.groups]
    exact h.holdsImage

/-- R135: a raster operation that leaves its image reports DONE. -/
theorem RasterResult.status_eq {p : Nat → Word} {s t : State} (h : RasterResult p s t) : t.status = 0x02 := by
  obtain ⟨hframe, -⟩ := h
  rw [hframe]

/-- R186: extracting a channel of the produced buffer gives the opaque colour of its slot for each pixel. -/
theorem ReadsEncoded.exists_exec_extract {s u : State} (h : ReadsEncoded s u) (hready : EncodeReady s) (c : Channel)
    (q : MaskReq) (g : GreySel) :
    ∃ v, exec (.extract c .none q g) u = .next v ∧ v.status = 0x02 ∧
      ∀ n < s.lat.imgW.toNat * s.lat.imgH.toNat,
        pxWord v.px n = packPixel 255 (decode565 (memRead16 u.pb (8 * n + chanOffset c))) := by
  have himage := rasterResult_blendFrame (h.rasterReady hready) (slotPixel (chanOffset c))
  refine ⟨_, exec_extract_none c q g u, himage.status_eq, fun n hn => ?_⟩
  obtain ⟨-, -, -, -, hpixels⟩ := himage
  rw [hpixels, if_pos (h.groups.symm ▸ hn), slotPixel, slotRgb]

/-- R104: what the packed format makes of a colour: the low 3, 2 and 3 bits cleared, a channel lower by at most 7, 3
and 7. -/
theorem decode565_encode565_bounds (c : Rgb) :
    (decode565 (encode565 c)).r.toNat ≤ c.r.toNat ∧ c.r.toNat ≤ (decode565 (encode565 c)).r.toNat + 7 ∧
      (decode565 (encode565 c)).g.toNat ≤ c.g.toNat ∧ c.g.toNat ≤ (decode565 (encode565 c)).g.toNat + 3 ∧
      (decode565 (encode565 c)).b.toNat ≤ c.b.toNat ∧ c.b.toNat ≤ (decode565 (encode565 c)).b.toNat + 7 := by
  obtain ⟨-, hcompose, -⟩ := packingAndExpansionCompose
  obtain ⟨-, hbounds⟩ := hcompose c
  exact hbounds

/-- R100: the word 0 expands to black. -/
theorem packPixel_decode565_zero : packPixel 255 (decode565 0) = 0xFF000000 := by decide

/-- Settles O35: the reading state passes the raster checks, so each extraction is told by the slots of the produced
buffer: the Light slot holds the pixel's word, which expands to the truncated colour, and the others the background. -/
theorem encodedImageReadsBack : Obligations.EncodedImageReadsBack := by
  unfold Obligations.EncodedImageReadsBack
  intro f s hready
  refine ⟨_, exec_encode_of_ready hready f, fun u q g hpb hcaps hwidth hheight hholds hwithin => ?_⟩
  have hreads : ReadsEncoded s u := ⟨hcaps, hwidth, hheight, hholds, hwithin⟩
  refine ⟨?_, fun c hc => ?_⟩
  · obtain ⟨v, hexec, hstatus, hpixels⟩ := hreads.exists_exec_extract hready .light q g
    refine ⟨v, hexec, hstatus, fun n hn => ⟨_, _, rfl, rfl, ?_, ?_⟩⟩
    · rw [hpixels n hn, hpb, memRead16_encodeDone_light f hn, pixelColour, decode565_encode565]
    · rw [← decode565_encode565]
      exact decode565_encode565_bounds _
  · obtain ⟨v, hexec, hstatus, hpixels⟩ := hreads.exists_exec_extract hready c q g
    refine ⟨v, hexec, hstatus, fun n hn => ?_⟩
    rw [hpixels n hn, hpb]
    cases f with
    | zeroFill =>
      rw [memRead16_encodeDone_zeroFill hready hc hn]
      exact packPixel_decode565_zero
    | patch => rw [memRead16_encodeDone_patch s hc, chanOffset_eq]

end Sys2Proof.Machine

/-! The null operation (spec/45_control.md). -/

namespace Sys2Proof.Machine

/-! ## The operation `NOP` -/

/-- R195: what the end of an operation without groups writes. -/
theorem finishDone_zero_eq (s : State) : finishDone 0 s = { s with status := 0x02, gidx := 0, phase := .rest } := rfl

theorem exec_nop (s : State) : exec .nop s = .next (finishDone 0 s) := rfl

/-- Settles O15: `NOP` has no check and no result, so it is the common end of a command alone. -/
theorem nopOnlyReportsDone : Obligations.NopOnlyReportsDone := by
  unfold Obligations.NopOnlyReportsDone
  refine ⟨by decide, fun s => ?_⟩
  rw [exec_nop, finishDone_zero_eq]

end Sys2Proof.Machine

/-! The errors of each operation, and the two ways a command ends (spec/60_exceptions.md). -/

namespace Sys2Proof.Machine

/-! ## The errors each check can raise -/

/-- R126: `BOFF` fails with ParamError or LayoutError. -/
theorem boffCheck_eq_some {c : Channel} {s : State} {e : ErrorClass} (h : boffCheck c s = some e) :
    e = .param ∨ e = .layout := by
  by_cases hparam : BoffParamError s
  · rw [boffCheck_of_paramError hparam] at h
    exact .inl (Option.some.inj h).symm
  · rw [boffCheck_of_not_paramError hparam, Option.ite_none_right_eq_some] at h
    obtain ⟨-, hlayout⟩ := h
    exact .inr (Option.some.inj hlayout).symm

/-- R150: the raster checks fail with ParamError or LayoutError. -/
theorem rasterCheck_eq_some {s : State} {e : ErrorClass} (h : rasterCheck s = some e) : e = .param ∨ e = .layout := by
  by_cases hparam : RasterParamError s
  · rw [rasterCheck_of_paramError hparam] at h
    exact .inl (Option.some.inj h).symm
  · rw [rasterCheck_of_not_paramError hparam, Option.ite_none_right_eq_some] at h
    obtain ⟨-, hlayout⟩ := h
    exact .inr (Option.some.inj hlayout).symm

/-- R131, R135: `EXTRACT` has ConfigurationError beside the errors of the raster checks. -/
theorem extractCheck_eq_some {c : Channel} {k : MaskKind} {s : State} {e : ErrorClass}
    (h : extractCheck c k s = some e) : e = .configuration ∨ e = .param ∨ e = .layout := by
  unfold extractCheck at h
  split_ifs at h with hmask
  · exact .inl (Option.some.inj h).symm
  · exact .inr (rasterCheck_eq_some h)

/-- R180, R182: `ENCODE` fails with ParamError or SizeError. -/
theorem encodeCheck_eq_some {s : State} {e : ErrorClass} (h : encodeCheck s = some e) : e = .param ∨ e = .size := by
  unfold encodeCheck at h
  split_ifs at h with hcap hsize
  · exact .inl (Option.some.inj h).symm
  · exact .inr (Option.some.inj h).symm

/-! ## How a command ends -/

/-- R211: a command ends in DONE, or in the error its checks found. -/
theorem status_of_exec {i : Instr} {s t : State} (h : exec i s = .next t) :
    t.status = 0x02 ∨ ∃ e, operationCheck i s = some e ∧ t.status = statusError e := by
  rcases exec_cases h with ⟨e, hcheck, rfl⟩ | ⟨-, rfl⟩
  · exact .inr ⟨e, hcheck, raiseError_status e s⟩
  · obtain ⟨hdone, -, -⟩ := wholeEffect_ends i s
    exact .inl hdone

/-- R105, R195: an operation without checks always ends in DONE. -/
theorem status_of_exec_unchecked {i : Instr} {s t : State} (h : exec i s = .next t)
    (hcheck : operationCheck i s = none) : t.status = 0x02 := by
  rcases status_of_exec h with hdone | ⟨e, hfail, -⟩
  · exact hdone
  · exact absurd (hcheck.symm.trans hfail) nofun

/-- R205: an operation whose checks know ParamError and one other error ends in DONE or in one of these. -/
theorem status_of_exec_param_or {i : Instr} {s t : State} {other : ErrorClass} (h : exec i s = .next t)
    (hcheck : ∀ {e}, operationCheck i s = some e → e = .param ∨ e = other) :
    t.status = 0x02 ∨ t.status = 0x43 ∨ t.status = statusError other := by
  rcases status_of_exec h with hdone | ⟨e, hfail, hstatus⟩
  · exact .inl hdone
  · obtain rfl | rfl := hcheck hfail
    · exact .inr (.inl hstatus)
    · exact .inr (.inr hstatus)

/-- R135, R205: `EXTRACT` ends in DONE, ConfigurationError, ParamError or LayoutError. -/
theorem status_of_exec_extract {c : Channel} {k : MaskKind} {q : MaskReq} {g : GreySel} {s t : State}
    (h : exec (.extract c k q g) s = .next t) :
    t.status = 0x02 ∨ t.status = 0x23 ∨ t.status = 0x43 ∨ t.status = 0x13 := by
  rcases status_of_exec h with hdone | ⟨e, hfail, hstatus⟩
  · exact .inl hdone
  · obtain rfl | rfl | rfl := extractCheck_eq_some hfail
    · exact .inr (.inl hstatus)
    · exact .inr (.inr (.inl hstatus))
    · exact .inr (.inr (.inr hstatus))

/-- Settles O39: an operation can end in DONE and in what its own checks raise. -/
theorem whichOperationRaisesWhat : Obligations.WhichOperationRaisesWhat := by
  unfold Obligations.WhichOperationRaisesWhat
  intro i s t h
  cases i with
  | nop | dec565 | enc565 | greyAvg | greyLum => exact status_of_exec_unchecked h rfl
  | boff c => exact status_of_exec_param_or h boffCheck_eq_some
  | extract c k q g => exact status_of_exec_extract h
  | blendLight | blendLMask | blendDark | blendDMask | blendMComp | blendCAvg | blendDmab =>
    exact status_of_exec_param_or h rasterCheck_eq_some
  | encode f => exact status_of_exec_param_or h encodeCheck_eq_some

/-- R201 to R204: the four values `STATUS` has after an error. -/
theorem statusError_cases (e : ErrorClass) :
    statusError e = 0x13 ∨ statusError e = 0x23 ∨ statusError e = 0x33 ∨ statusError e = 0x43 := by
  cases e <;> decide

/-- Settles O36: a command either enters its error, which writes `STATUS`, `GIDX` and the phase only, or makes its
whole effect, which ends in DONE. -/
theorem everyCommandIsAllOrNothing : Obligations.EveryCommandIsAllOrNothing := by
  unfold Obligations.EveryCommandIsAllOrNothing
  intro i s
  refine ⟨_, exec_eq_conclude i s, ?_⟩
  rcases conclude_cases (operationCheck i s) (wholeEffect i) s with ⟨e, -, hfail⟩ | ⟨-, heffect⟩
  · rw [hfail]
    exact ⟨raiseError_phase e s, .inr ⟨statusError_cases e, raiseError_eq e s⟩⟩
  · obtain ⟨hdone, hphase, -⟩ := wholeEffect_ends i s
    rw [heffect]
    exact ⟨hphase, .inl hdone⟩

end Sys2Proof.Machine

/-! Reset and the micro-steps (spec/70_reset_and_hazards.md): START, CHECK, FILL, PIXEL and FINISH as the steps of a
silent host, the run of a whole command by micro-steps, and what the reset event leaves of the memories. -/

namespace Sys2Proof.Machine

/-! ## START -/

/-- Settles O42: the write that finds the block idle is START, whose state `started` writes out. -/
theorem cmdWriteStartsTheCommand : Obligations.CmdWriteStartsTheCommand := by
  unfold Obligations.CmdWriteStartsTheCommand
  intro s w rest hidle hhost
  rw [step_writeCmd_of_idle hidle hhost, startCommand_eq_started]

/-! ## CHECK -/

/-- The state with other contents of PB and PX. -/
def State.withMemories (s : State) (pb : List Host.Cell) (px : List (Nat × Word)) : State :=
  { s with pb := pb, px := px }

/-- The begin of the work neither reads nor writes a memory (R241). -/
theorem beginWork_withMemories (i : Instr) (s : State) (pb : List Host.Cell) (px : List (Nat × Word)) :
    beginWork (s.withMemories pb px) (operationWork i (s.withMemories pb px)) =
      (beginWork s (operationWork i s)).withMemories pb px := by
  cases i with
  | encode f => cases f <;> rfl
  | _ => rfl

/-- CHECK neither reads nor writes a memory (R241). -/
theorem checkStep_withMemories (s : State) (pb : List Host.Cell) (px : List (Nat × Word)) :
    checkStep (s.withMemories pb px) = (checkStep s).withMemories pb px := by
  have hlat : (s.withMemories pb px).lat = s.lat := rfl
  simp only [checkStep, hlat]
  cases decode s.lat.cmd with
  | error e => rfl
  | ok i =>
    have hcheck : operationCheck i (s.withMemories pb px) = operationCheck i s := operationCheck_congr i rfl rfl
    simp only [hcheck]
    cases operationCheck i s with
    | some e => rfl
    | none => exact beginWork_withMemories i s pb px

/-- The block's step in phase CHECK (R241). -/
theorem blockStep_of_check {s : State} (hphase : s.phase = .check) : blockStep s = checkStep s := by
  simp only [blockStep, hphase]

/-- Settles O54: CHECK commutes with a change of the memories, and with the memories `s` has already that says it
leaves them. -/
theorem checkNeverTouchesTheMemories : Obligations.CheckNeverTouchesTheMemories := by
  unfold Obligations.CheckNeverTouchesTheMemories
  intro s pb' px' hhost hphase
  have hkeep : checkStep s = (checkStep s).withMemories s.pb s.px := checkStep_withMemories s s.pb s.px
  have hstep : step (s.withMemories pb' px') = .next ((checkStep s).withMemories pb' px') := by
    rw [step_nil (s.withMemories pb' px') hhost, blockStep_of_check (s := s.withMemories pb' px') hphase,
      checkStep_withMemories]
  refine ⟨checkStep s, by rw [step_nil s hhost, blockStep_of_check hphase], ?_, ?_, hstep⟩
  · exact (congrArg State.pb hkeep).trans rfl
  · exact (congrArg State.px hkeep).trans rfl

/-! ## FILL -/

/-- The block's step in phase FILL (R242). -/
theorem blockStep_of_fill {s : State} (hphase : s.phase = .fill) : blockStep s = fillStep s := by
  simp only [blockStep, hphase]

/-- Settles O51: FILL stores zeros from index 0 up to `DESTLEN`. -/
theorem fillZeroesTheDestination : Obligations.FillZeroesTheDestination := by
  unfold Obligations.FillZeroesTheDestination
  intro s hhost hphase
  refine ⟨fillStep s, by rw [step_nil s hhost, blockStep_of_fill hphase], rfl, fun a => ?_⟩
  rw [fillStep_pb, zeroBytes, pbByte_storeRange]

/-! ## PIXEL and FINISH -/

/-- The block's step in phase RUN of a legal word: PIXEL while groups remain, then FINISH (R243, R244). -/
theorem blockStep_of_run {s : State} {i : Instr} (hphase : s.phase = .run) (hdec : decode s.lat.cmd = .ok i) :
    blockStep s =
      if s.gidx.toNat < workCount s.lat (operationWork i s) then pixelStep s s.gidx.toNat (operationWork i s)
      else finishStep s (operationWork i s) := by
  simp only [blockStep, hphase, runStep, hdec]

/-- R241: phase RUN belongs to an operation with a loop whose checks have passed. -/
theorem State.Inv.passed_of_run {s : State} {i : Instr} (hs : s.Inv) (hphase : s.phase = .run)
    (hdec : decode s.lat.cmd = .ok i) : operationCheck i s = none ∧ (operationWork i s).isLoop = true := by
  obtain ⟨j, hj, hcheck, hloop, -⟩ := hs.runWork hphase
  cases hdec.symm.trans hj
  exact ⟨hcheck, hloop⟩

/-- PIXEL of a raster operation writes one word of PX (R243). -/
theorem pxWord_pixelStep_raster (s : State) (g : Nat) (pixel : List Host.Cell → Nat → Word) (n : Nat) :
    pxWord (pixelStep s g (.raster pixel)).px n = if n = g then pixel s.pb n else pxWord s.px n := by
  simp only [pixelStep, pxWord_store]
  split_ifs with hn
  · rw [hn]
  · rfl

/-- PIXEL of `ENCODE` writes the two bytes of one Light slot (R181, R243). -/
theorem pbByte_pixelStep_encoder (s : State) (g : Nat) (f : FillMode) (a : Nat) :
    pbByte (pixelStep s g (.encoder f)).pb a =
      if a = 8 * g then (pixelColour s.px g).extractLsb' 0 8
      else if a = 8 * g + 1 then (pixelColour s.px g).extractLsb' 8 8
      else pbByte s.pb a :=
  pbByte_memWrite16 s.pb (8 * g) a (pixelColour s.px g)

/-- Settles O52: below the count the step is PIXEL, whose count does not wrap and whose store is the one of its
family. -/
theorem pixelStepDoesOneGroup : Obligations.PixelStepDoesOneGroup := by
  unfold Obligations.PixelStepDoesOneGroup
  intro s i hs hhost hphase hdec hlt
  obtain ⟨hcheck, hloop⟩ := hs.passed_of_run hphase hdec
  refine ⟨pixelStep s s.gidx.toNat (operationWork i s), ?_, pixelStep_gidx_toNat hcheck hloop hlt,
    pixelStep_frame s s.gidx.toNat _, fun pixel hwork => ?_, ?_⟩
  · rw [step_nil s hhost, blockStep_of_run hphase hdec, if_pos hlt]
  · rw [hwork]
    exact ⟨rfl, pxWord_pixelStep_raster s s.gidx.toNat pixel⟩
  · rintro f rfl
    exact ⟨rfl, pbByte_pixelStep_encoder s s.gidx.toNat f⟩

/-- FINISH writes the size at most, and reports DONE (R244). -/
theorem finishStep_frame (s : State) (work : Work) :
    finishStep s work = { s with
      outW := (finishStep s work).outW, outH := (finishStep s work).outH, status := 0x02, phase := .rest } := by
  cases work <;> rfl

/-- FINISH of a raster operation reports the size of its image, which fits a register (R120, R244). -/
theorem finishStep_raster_size (s : State) (pixel : List Host.Cell → Nat → Word) :
    (finishStep s (.raster pixel)).outW.toNat = s.lat.width.toNat / 4 ∧
      (finishStep s (.raster pixel)).outH.toNat = s.lat.height.toNat / 4 := by
  have hw := s.lat.width.isLt
  have hh := s.lat.height.isLt
  simp only [finishStep, Latch.outWidth, Latch.outHeight, BitVec.toNat_ofNat]
  omega

/-- Settles O53: at the count the step is FINISH, which writes the size for a raster and not for `ENCODE`. -/
theorem finishReportsTheSize : Obligations.FinishReportsTheSize := by
  unfold Obligations.FinishReportsTheSize
  intro s i hs hhost hphase hdec hcount
  obtain ⟨-, hloop⟩ := hs.passed_of_run hphase hdec
  refine ⟨finishStep s (operationWork i s), ?_, finishStep_frame s _, ?_, fun hread => ?_⟩
  · rw [step_nil s hhost, blockStep_of_run hphase hdec, if_neg (by omega)]
  · rintro ⟨f, rfl⟩
    exact ⟨rfl, rfl⟩
  · rcases operationWork_cases i s with ⟨r0, r1, hwork⟩ | ⟨pixel, hwork, -⟩ | ⟨f, rfl⟩
    · simp [hwork, Work.isLoop] at hloop
    · rw [hwork]
      exact finishStep_raster_size s pixel
    · exact absurd rfl (hread f)

/-! ## A whole command by micro-steps -/

/-- A micro-step does not touch the host's list (R241 to R244). -/
theorem blockStep_host (s : State) : (blockStep s).host = s.host :=
  (congrArg State.host (blockStep_withPorts s s.host s.reply)).trans rfl

/-- While the host is silent every step is a micro-step (R236, R249). -/
theorem BusyRun.run_silent {s t : State} {n : Nat} (hrun : BusyRun s n t) (hhost : s.host = []) :
    t.host = [] ∧ Host.Core.run core n s = .next t := by
  induction hrun with
  | start => exact ⟨hhost, rfl⟩
  | @move n t _ _ ih =>
    obtain ⟨hsilent, ih⟩ := ih
    exact ⟨(blockStep_host t).trans hsilent, by rw [core_run_add ih, core_run_one (step_nil t hsilent)]⟩

/-- Settles O56: START, and the micro-steps that lead from it to the atomic result. -/
theorem microStepsReachTheAtomicResult : Obligations.MicroStepsReachTheAtomicResult := by
  unfold Obligations.MicroStepsReachTheAtomicResult
  intro s w hidle
  obtain ⟨n, t, hn, hcommand, hrun⟩ := busyRun_startCommand w (s.withPorts [] s.reply)
  rw [commandCount_withPorts] at hn
  have hstart : step { s with host := [.writeReg 0 4 w] } = .next (startCommand w (s.withPorts [] s.reply)) :=
    step_writeCmd_of_idle (s := { s with host := [.writeReg 0 4 w] }) hidle rfl
  have hatomic : step { s with host := [.command w] } = .next t :=
    (step_command_of_idle (s := { s with host := [.command w] }) hidle rfl).trans hcommand
  refine ⟨n + 1, (by omega : n + 1 ≤ commandCount w s + 4), ?_⟩
  rw [core_run_succ hstart, hatomic]
  exact (hrun.run_silent rfl).2

/-! ## The reset event -/

/-- R230: every register reads 0 after the reset event. -/
theorem readRegister_resetEvent (s : State) (offset : Nat) : readRegister (resetEvent s) offset = 0 := by
  unfold readRegister
  split <;> rfl

/-- Only a reading operation makes an image (R134, R150). -/
theorem reading_of_operationWork {i : Instr} {s : State} {pixel : List Host.Cell → Nat → Word}
    (h : operationWork i s = .raster pixel) : i ∈ blends ∨ ∃ c k q g, i = .extract c k q g := by
  cases i with
  | extract c k q g => exact .inr ⟨c, k, q, g, rfl⟩
  | blendLight | blendLMask | blendDark | blendDMask | blendMComp | blendCAvg | blendDmab => exact .inl (by simp)
  | nop | dec565 | enc565 | greyAvg | greyLum | boff | encode => cases h

/-- What PB and PX can be after a reset in the state `s` (R230): as they were, or, when it interrupts a command whose
checks pass, with other values in that command's output range. -/
inductive ResetMemories (s : State) : List Host.Cell → List (Nat × Word) → Prop where
  | kept : ResetMemories s s.pb s.px
  | image (i : Instr) (f : Nat → Word) : s.busy = true → decode s.lat.cmd = .ok i → operationCheck i s = none →
      (i ∈ blends ∨ ∃ c k q g, i = .extract c k q g) →
      ResetMemories s s.pb (Memory.storeRange f s.lat.groups s.px)
  | buffer (m : FillMode) (f : Nat → Byte) : s.busy = true → decode s.lat.cmd = .ok (.encode m) →
      operationCheck (.encode m) s = none →
      ResetMemories s (Memory.storeRange f s.lat.destLen.toNat s.pb) s.px

/-- An abandoned command loses its output range at most (R230). -/
theorem resetMemories_abandonCommand {s : State} (hbusy : s.busy = true) :
    ResetMemories s (abandonCommand s).pb (abandonCommand s).px := by
  unfold abandonCommand
  split
  next => exact .kept
  next i hdec =>
    split
    next => exact .kept
    next hcheck =>
      rcases operationWork_cases i s with ⟨r0, r1, hwork⟩ | ⟨pixel, hwork, -⟩ | ⟨m, rfl⟩
      · rw [hwork]
        exact .kept
      · rw [hwork]
        exact .image i _ hbusy hdec hcheck (reading_of_operationWork hwork)
      · exact .buffer m _ hbusy hdec hcheck

/-- The reset event keeps the memories, but for the output range of a command it interrupts (R230). -/
theorem resetMemories_resetEvent (s : State) : ResetMemories s (resetEvent s).pb (resetEvent s).px := by
  unfold resetEvent
  split_ifs with hbusy
  · exact resetMemories_abandonCommand hbusy
  · exact .kept

/-- The output a reset can lose does not depend on the ports. -/
theorem ResetMemories.of_withPorts {s : State} {host : List HostAction} {reply : Option Word} {pb : List Host.Cell}
    {px : List (Nat × Word)} (h : ResetMemories (s.withPorts host reply) pb px) : ResetMemories s pb px := by
  cases h with
  | kept => exact .kept
  | image i f hbusy hdec hcheck hread =>
    rw [operationCheck_withPorts] at hcheck
    exact .image i f hbusy hdec hcheck hread
  | buffer m f hbusy hdec hcheck =>
    rw [operationCheck_withPorts] at hcheck
    exact .buffer m f hbusy hdec hcheck

section ResetMemories

variable {s : State} {pb : List Host.Cell} {px : List (Nat × Word)}

/-- R230: at rest a reset keeps both memories. -/
theorem ResetMemories.kept_of_idle (h : ResetMemories s pb px) (hidle : s.busy = false) : pb = s.pb ∧ px = s.px := by
  cases h with
  | kept => exact ⟨rfl, rfl⟩
  | image _ _ hbusy | buffer _ _ hbusy => simp [hidle] at hbusy

/-- R230: a command whose checks fail has no output to lose. -/
theorem ResetMemories.kept_of_failed (h : ResetMemories s pb px) {i : Instr} (hdec : decode s.lat.cmd = .ok i)
    (hfail : operationCheck i s ≠ none) : pb = s.pb ∧ px = s.px := by
  cases h with
  | kept => exact ⟨rfl, rfl⟩
  | image _ _ _ hdec' hcheck | buffer _ _ _ hdec' hcheck =>
    cases hdec.symm.trans hdec'
    exact absurd hcheck hfail

/-- R230: only the output of `ENCODE` is in PB. -/
theorem ResetMemories.pb_eq (h : ResetMemories s pb px) (hencode : ∀ f, decode s.lat.cmd ≠ .ok (.encode f)) :
    pb = s.pb := by
  cases h with
  | kept | image => rfl
  | buffer m _ _ hdec => exact absurd hdec (hencode m)

/-- R230: only the output of `EXTRACT` and `BLEND.*` is in PX. -/
theorem ResetMemories.px_eq (h : ResetMemories s pb px)
    (hread : ∀ i, decode s.lat.cmd = .ok i → i ∉ blends ∧ ∀ c k q g, i ≠ .extract c k q g) : px = s.px := by
  cases h with
  | kept | buffer => rfl
  | image i _ _ hdec _ hreads =>
    obtain ⟨hblend, hextract⟩ := hread i hdec
    rcases hreads with hmem | ⟨c, k, q, g, heq⟩
    · exact absurd hmem hblend
    · exact absurd heq (hextract c k q g)

/-- R230: PX at `N` and above is kept. -/
theorem ResetMemories.pxWord_eq (h : ResetMemories s pb px) {n : Nat} (hn : s.lat.groups ≤ n) :
    pxWord px n = pxWord s.px n := by
  cases h with
  | kept | buffer => rfl
  | image => rw [pxWord_storeRange, if_neg (by omega)]

/-- R230: PB at `DESTLEN` and above is kept. -/
theorem ResetMemories.pbByte_eq (h : ResetMemories s pb px) {a : Nat} (ha : s.lat.destLen.toNat ≤ a) :
    pbByte pb a = pbByte s.pb a := by
  cases h with
  | kept | image => rfl
  | buffer => rw [pbByte_storeRange, if_neg (by omega)]

end ResetMemories

/-- The reset event leaves the ports and the capacities alone (R230). -/
theorem resetEvent_frame (s : State) :
    (resetEvent s).caps = s.caps ∧ (resetEvent s).host = s.host ∧ (resetEvent s).reply = s.reply := by
  have habandon : (abandonCommand s).caps = s.caps ∧ (abandonCommand s).host = s.host ∧
      (abandonCommand s).reply = s.reply := by
    unfold abandonCommand
    split
    next => exact ⟨rfl, rfl, rfl⟩
    next i hdec =>
      split
      next => exact ⟨rfl, rfl, rfl⟩
      next => cases operationWork i s <;> exact ⟨rfl, rfl, rfl⟩
  unfold resetEvent
  split_ifs
  · exact habandon
  · exact ⟨rfl, rfl, rfl⟩

/-- Settles O50: the registers by `readRegister_resetEvent`, and each clause about the memories by a lemma on
`ResetMemories`. -/
theorem resetEventKeepsTheMemories : Obligations.ResetEventKeepsTheMemories := by
  unfold Obligations.ResetEventKeepsTheMemories
  intro s rest hhost
  obtain ⟨hcaps, hrest, hreply⟩ := resetEvent_frame (s.withPorts rest s.reply)
  have hmem := (resetMemories_resetEvent (s.withPorts rest s.reply)).of_withPorts
  exact ⟨resetEvent (s.withPorts rest s.reply), step_cons s .reset rest hhost, readRegister_resetEvent _, rfl, rfl,
    hcaps, hrest, hreply, hmem.kept_of_idle, fun _ => hmem.kept_of_failed, hmem.pb_eq, hmem.px_eq,
    fun _ => hmem.pxWord_eq, fun _ => hmem.pbByte_eq⟩

end Sys2Proof.Machine
